-- ==== Sys2Proof/Word.lean ====
section
/-! DEFINITION. The plain words of the Linmara BX8: bytes, words, 16-bit counts, millisecond times, and the small index types
(pairs, labels, requester tags) of the manual's Conventions. -/

namespace Sys2Proof

/-- A byte. -/
abbrev Byte := BitVec 8

/-- A 16-bit count or sequence number, compared modulo 65536 (Conventions, "Modulo counts"). -/
abbrev Half := BitVec 16

/-- A memory word: 4 bytes, the byte at the lowest address most significant (Conventions, "Byte order of formats"). -/
abbrev Word := BitVec 32

/-- A millisecond time of the Timebase (R205). -/
abbrev Time := BitVec 32

/-- A local pair, 0..7. -/
abbrev Pair := Fin 8

/-- A transaction label, 0..7, upstream or downstream. -/
abbrev Label := Fin 8

/-- A requester tag, 0..15. -/
abbrev Tag := Fin 16

/-- The eight pairs in rising order. -/
def allPairs : List Pair := [0, 1, 2, 3, 4, 5, 6, 7]

end Sys2Proof
end

