-- ==== Sys2Proof/Syntax.lean ====
section
/-! DEFINITION. The commands of the BX8: one constructor of Instr per row of spec/opcode_table.json, with its operands. -/

namespace Sys2Proof

/-- One word of write data with its four byte enables; bit n of enables is for the word's byte n. -/
structure WriteWord where
  data    : Word
  enables : BitVec 4
deriving DecidableEq, Repr

/-- Memory's answer: OK with data (for a read), or ERROR (Conventions, "Transactions"). -/
inductive Answer where
  | ok (data : List Word)
  | error
deriving DecidableEq, Repr

/-- The steps of the part, each whole and indivisible (spec/95). A label operand of an answer row is the downstream label answered.
An operand us is the microsecond clock's reading at the step (log entry 3). -/
inductive Instr where
  | read (label : Label) (tag : Tag) (addr : Word) (words : Nat)
  | write (label : Label) (tag : Tag) (addr : Word) (data : List WriteWord)
  | lockedRead (label : Label) (tag : Tag) (addr : Word) (words : Nat)
  | lockedWrite (label : Label) (tag : Tag) (addr : Word) (data : List WriteWord)
  | arbiterGrant (down : Label) (us : Nat)
  | lockLimitExpiry (us : Nat)
  | memoryAnswer (down : Label) (answer : Answer)
  | responseLimitExpiry (down : Label) (us : Nat)
  | lateAnswer (down : Label)
  | fullReset
  | resetRelease (us : Nat)
  | quietAnswerDiscard (down : Label)
  | downstreamQuietEnd (us : Nat)
  | roomNotice
  | skewTimerExpiry
  | pieceEnd (down : Label) (answer : Answer)
  | fetchOffer
  | fetchAnswer (down : Label) (answer : Answer)
  | frameSelection
  | ageExpiry (number : Half)
  | stallExpiry
  | frameReleased
  | submissionRingTakeIntoUse
  | recomputeTakeIntoUse
  | dataPlacement
  | replaced
  | statusPlacement
  | provePlacement
  | copierReadAnswer (down : Label) (answer : Answer)
  | copierWriteAnswer (down : Label) (answer : Answer)
  | statusTimerExpiry (pair : Pair)
  | drainedPairStart (pair : Pair)
  | provingPeriodEnd (pair : Pair)
  | retryHoldoffExpiry (pair : Pair)
  | silenceExpiry (pair : Pair)
  | lossHoldoffExpiry (pair : Pair)
  | penaltyEnd (pair : Pair)
  | quarantineFactorReset (pair : Pair)
  | surgeFallingEdge
  | surgeRisingEdge
  | epochBoundary
  | referenceAcquired
  | referenceLost
  | pointerWriteAnswer (down : Label) (answer : Answer)
  | eventWordWriteAnswer (down : Label) (answer : Answer)
  | reportTimerExpiry
  | publicationStart
  | publicationWriteAnswer (down : Label) (answer : Answer)
  | heldReadRelease
  | millisecondTick
deriving DecidableEq, Repr

end Sys2Proof
end

