-- ==== Sys2Proof/Decode.lean ====
section
/-! DEFINITION. Decoding by table bits. The BX8 is a block: no row of spec/opcode_table.json gives bits ("fields" is empty in
every row), so no word spells a command. -/

namespace Sys2Proof

/-- The command a word spells by the table's bits: none, since no row gives any. -/
def decodeTableWord (_nbits _w : Nat) : Option Instr := none

end Sys2Proof
end

