-- ==== Sys2Proof/Machine/Names.lean ====
section
/-! DEFINITION. The names of the counters and events, each with its place in the report (R222, R223). -/

namespace Sys2Proof.Machine

/-- The 64 global counters, in the order of their words in the report (R222). -/
inductive GCounter where
  | refused | foreignWrite | partialSnoop | strayAccess | pathTimeout | memoryError | lateAnswer | lockBreak | lostSequence
  | orphan | malformed | loss | oversize | framesAssembled | blocked | restartCleared | receiveRestart | skewExpiry
  | skewLost | closureLost | forcedAdvance | forcedLost | forced | framesDelivered | framesRetired | redirectedRead
  | splitRead | zeroRead | noFrameRead | voidRead | readFault | overwrittenFrame | badConsumer | fetched | badProducer
  | sent | expired | stalled | aborted | badRecord | fault | fetchFault | generationSet | recompute | replenish | replaced
  | recut | copyFault | surgeEdge | stopEntry | ackAccepted | ackRefused | ackIdle | applied | rejected | commitReplaced
  | bondRestart | clockSwitch | eventClear | heldRead | reportMerged | requestIgnored | publications | publishFault
deriving DecidableEq, Repr

/-- The word of a global counter, counted from report offset +256 (R222). -/
def GCounter.index : GCounter → Fin 64
  | .refused => 0 | .foreignWrite => 1 | .partialSnoop => 2 | .strayAccess => 3 | .pathTimeout => 4 | .memoryError => 5
  | .lateAnswer => 6 | .lockBreak => 7 | .lostSequence => 8 | .orphan => 9 | .malformed => 10 | .loss => 11
  | .oversize => 12 | .framesAssembled => 13 | .blocked => 14 | .restartCleared => 15 | .receiveRestart => 16
  | .skewExpiry => 17 | .skewLost => 18 | .closureLost => 19 | .forcedAdvance => 20 | .forcedLost => 21 | .forced => 22
  | .framesDelivered => 23 | .framesRetired => 24 | .redirectedRead => 25 | .splitRead => 26 | .zeroRead => 27
  | .noFrameRead => 28 | .voidRead => 29 | .readFault => 30 | .overwrittenFrame => 31 | .badConsumer => 32 | .fetched => 33
  | .badProducer => 34 | .sent => 35 | .expired => 36 | .stalled => 37 | .aborted => 38 | .badRecord => 39 | .fault => 40
  | .fetchFault => 41 | .generationSet => 42 | .recompute => 43 | .replenish => 44 | .replaced => 45 | .recut => 46
  | .copyFault => 47 | .surgeEdge => 48 | .stopEntry => 49 | .ackAccepted => 50 | .ackRefused => 51 | .ackIdle => 52
  | .applied => 53 | .rejected => 54 | .commitReplaced => 55 | .bondRestart => 56 | .clockSwitch => 57 | .eventClear => 58
  | .heldRead => 59 | .reportMerged => 60 | .requestIgnored => 61 | .publications => 62 | .publishFault => 63

/-- The 40 counters of a Pair Record, in the order of their words in the report (R223). -/
inductive PCounter where
  | landedData | landedStatus | landedProve | headerError | torn | ringSkip | voided | wrongLane | noLane | laneConflict
  | badStatus | outWrite | foreignRingWrite | partialRingWrite | foreignCellWrite | admitted | offState | staleGeneration
  | duplicate | late | stale | orderSlip | windowFull | txData | txStatus | txProve | abandoned | givenUp | badTxConsumer
  | statusSkipped | controlFault | injected | stateChange | activations | provingFail | silenceExpiry | errorBurst
  | pairLoss | quarantineEntry | badPeerState
deriving DecidableEq, Repr

/-- The word of a per-pair counter, counted from word 24 of the pair's record (R223). -/
def PCounter.index : PCounter → Fin 40
  | .landedData => 0 | .landedStatus => 1 | .landedProve => 2 | .headerError => 3 | .torn => 4 | .ringSkip => 5
  | .voided => 6 | .wrongLane => 7 | .noLane => 8 | .laneConflict => 9 | .badStatus => 10 | .outWrite => 11
  | .foreignRingWrite => 12 | .partialRingWrite => 13 | .foreignCellWrite => 14 | .admitted => 15 | .offState => 16
  | .staleGeneration => 17 | .duplicate => 18 | .late => 19 | .stale => 20 | .orderSlip => 21 | .windowFull => 22
  | .txData => 23 | .txStatus => 24 | .txProve => 25 | .abandoned => 26 | .givenUp => 27 | .badTxConsumer => 28
  | .statusSkipped => 29 | .controlFault => 30 | .injected => 31 | .stateChange => 32 | .activations => 33
  | .provingFail => 34 | .silenceExpiry => 35 | .errorBurst => 36 | .pairLoss => 37 | .quarantineEntry => 38
  | .badPeerState => 39

/-- The sixteen events, in the bit order of the Event Word (R222). -/
inductive Event where
  | pairChange | pairQuarantine | laneConflict | gapLoss | windowForced | frameReady | frameOverwritten | submitDone | surge
  | profileApplied | profileRejected | pathFault | foreignAccess | lockBroken | clockFallback | strayRead
deriving DecidableEq, Repr

/-- The bit of an event in the event set (R222). -/
def Event.bit : Event → Fin 16
  | .pairChange => 0 | .pairQuarantine => 1 | .laneConflict => 2 | .gapLoss => 3 | .windowForced => 4 | .frameReady => 5
  | .frameOverwritten => 6 | .submitDone => 7 | .surge => 8 | .profileApplied => 9 | .profileRejected => 10
  | .pathFault => 11 | .foreignAccess => 12 | .lockBroken => 13 | .clockFallback => 14 | .strayRead => 15

end Sys2Proof.Machine
end

