-- ==== Sys2Proof/Machine/Formats.lean ====
section
/-! DEFINITION. The byte layouts of chapter 11 that need no state: words and their bytes, the fragment header and its check (R216),
the STATUS and PROVE payloads (R217), the completion word (R218), count words (R220), and the Profile Block's default image (R221). -/

namespace Sys2Proof.Machine

/-! ## Words and bytes -/

/-- Byte n of a word, byte 0 at the lowest address and most significant (Conventions, "Byte order of formats"). -/
def byteOf (w : Word) (n : Nat) : Byte := w.extractLsb' (8 * (3 - n)) 8

/-- The word of four bytes in address order. -/
def wordOfBytes (b0 b1 b2 b3 : Byte) : Word := b0 ++ b1 ++ b2 ++ b3

/-- Bytes 0..1 of a word as a number. -/
def highHalf (w : Word) : Half := w.extractLsb' 16 16

/-- Bytes 2..3 of a word as a number. -/
def lowHalf (w : Word) : Half := w.extractLsb' 0 16

/-- The word whose bytes 0..1 hold h and whose bytes 2..3 hold l. -/
def wordOfHalves (h l : Half) : Word := h ++ l

/-- A word from a number, modulo 2^32. -/
def wordOf (n : Nat) : Word := BitVec.ofNat 32 n

/-- A half from a number, modulo 2^16. -/
def halfOf (n : Nat) : Half := BitVec.ofNat 16 n

/-- A byte from a number, modulo 2^8. -/
def byteOfNat (n : Nat) : Byte := BitVec.ofNat 8 n

/-- One bit as a number. -/
def bitOf (b : Bool) (n : Nat) : Nat := if b then 2 ^ n else 0

/-- Whether every byte enable of a written word is set. -/
def wholeWord (w : WriteWord) : Bool := w.enables == 0xF#4

/-- The word with its bytes from position n on written as zero (R103, R150). -/
def keepBytes (w : Word) (n : Nat) : Word :=
  if n ≥ 4 then w else w &&& ~~~ (0xFFFFFFFF#32 >>> (8 * n))

/-- A list of words cut to the bytes below a length: bytes at or past it read as zero (R103, R150). -/
def keepBytesList : List Word → Nat → List Word
  | [], _ => []
  | w :: ws, n => keepBytes w n :: keepBytesList ws (n - 4)

/-- Words needed for a number of bytes: ⌈n/4⌉. -/
def wordsFor (bytes : Nat) : Nat := (bytes + 3) / 4

/-! ## Modular comparisons -/

/-- A counter plus n, stopping at 4 294 967 295 (Conventions, "Counters"). -/
def satAdd32 (c : Word) (n : Nat) : Word := wordOf (min (c.toNat + n) 4294967295)

/-- A 16-bit tally plus n, stopping at 65535 (R49, R172). -/
def satAdd16 (c : Half) (n : Nat) : Half := halfOf (min (c.toNat + n) 65535)

/-- The distance of s from h: (s − h) mod 65536 (Conventions, "Modulo counts"). -/
def distance (s h : Half) : Nat := (s - h).toNat

/-- A generation is NEWER when (g − c) mod 256 lies in 1..127 (Conventions, "Generations"). -/
def newer (g c : Byte) : Bool := 1 ≤ (g - c).toNat && (g - c).toNat ≤ 127

/-- A deadline is reached when (time − deadline) mod 2^32 is less than 2^31 (R205). -/
def reached (now deadline : Time) : Bool := (now - deadline).toNat < 2 ^ 31

/-! ## The fragment header and its check (R23, R24, R216) -/

/-- One shift of the check register: toward the most significant bit, with polynomial 7 when the bit shifted out is 1. -/
def crcShift (c : Byte) : Byte := if c.msb then (c <<< 1) ^^^ 7#8 else c <<< 1

/-- The check register after one more byte: exclusive-or, then eight shifts. -/
def crcByte (c b : Byte) : Byte :=
  crcShift (crcShift (crcShift (crcShift (crcShift (crcShift (crcShift (crcShift (c ^^^ b))))))))

/-- The CRC-8 of a byte list: the register starts at all ones and there is no final inversion. -/
def crc8 (bytes : List Byte) : Byte := bytes.foldl crcByte 0xFF#8

/-- The eight header fields (R23). -/
structure Header where
  kind       : BitVec 3
  s          : Bool
  e          : Bool
  lane       : Fin 8
  generation : Byte
  sequence   : Half
  length     : Half
  info       : Byte
  check      : Byte
deriving DecidableEq, Repr

def kindData : BitVec 3 := 1
def kindStatus : BitVec 3 := 2
def kindProve : BitVec 3 := 3

/-- The seven bytes under the check, from the two header words. -/
def headerBytes (w0 w1 : Word) : List Byte :=
  [byteOf w0 0, byteOf w0 1, byteOf w0 2, byteOf w0 3, byteOf w1 0, byteOf w1 1, byteOf w1 2]

/-- The header fields read from the first two words of a cell. -/
def parseHeader (w0 w1 : Word) : Header :=
  { kind := w0.extractLsb' 29 3
    s := w0.getLsbD 28
    e := w0.getLsbD 27
    lane := ⟨(w0.extractLsb' 24 3).toNat, (w0.extractLsb' 24 3).isLt⟩
    generation := byteOf w0 1
    sequence := lowHalf w0
    length := highHalf w1
    info := byteOf w1 2
    check := byteOf w1 3 }

/-- The first header word from its fields. -/
def headerWord0 (kind : BitVec 3) (s e : Bool) (lane : Fin 8) (generation : Byte) (sequence : Half) : Word :=
  wordOfHalves ((kind ++ BitVec.ofBool s ++ BitVec.ofBool e ++ BitVec.ofNat 3 lane.val) ++ generation) sequence

/-- The second header word, with the check computed over bytes 0..6; a spoilt header carries 255 minus it (R195). -/
def headerWord1 (w0 : Word) (length : Half) (info : Byte) (spoilt : Bool) : Word :=
  let unchecked := wordOfHalves length (info ++ 0#8)
  let check := crc8 (headerBytes w0 unchecked)
  wordOfHalves length (info ++ (if spoilt then 255#8 - check else check))

/-- The two header words of a fragment the BX8 sends (R148 step 5, R157, R158, R195). -/
def buildHeader (kind : BitVec 3) (s e : Bool) (lane : Fin 8) (generation : Byte) (sequence length : Half) (info : Byte)
    (spoilt : Bool) : List Word :=
  let w0 := headerWord0 kind s e lane generation sequence
  [w0, headerWord1 w0 length info spoilt]

/-- The last header-error cause shown for a pair (R43). -/
inductive ErrorCause where
  | none | check | kind | length
deriving DecidableEq, Repr

/-- The classification of a header: the cause of a header error, or none for a header-valid header. The three tests are made
together; the check, then the kind, takes precedence in naming the cause (R24, R43). -/
def classifyHeader (w0 w1 : Word) : ErrorCause :=
  let h := parseHeader w0 w1
  if crc8 (headerBytes w0 w1) ≠ h.check then .check
  else if h.kind ≠ kindData ∧ h.kind ≠ kindStatus ∧ h.kind ≠ kindProve then .kind
  else if h.length = 0 ∨ h.length.toNat > 1016 then .length
  else .none

/-- The words of a cell a fragment of this payload length occupies: 2 + ⌈length/4⌉ (section 2.1). -/
def fragmentWords (length : Nat) : Nat := 2 + wordsFor length

/-! ## STATUS and PROVE payloads (R26, R27, R217) -/

/-- The five captured fields of a STATUS payload (R26). -/
structure StatusPayload where
  state      : Byte
  accept     : Byte
  valid      : Bool
  generation : Byte
  head       : Half
deriving DecidableEq, Repr

/-- The payload fields from the first two payload words; bytes 6..15 and flag bits 1..7 are ignored (R26). -/
def parseStatus (p0 p1 : Word) : StatusPayload :=
  { state := byteOf p0 0, accept := byteOf p0 1, valid := (byteOf p0 2).getLsbD 0, generation := byteOf p0 3, head := highHalf p1 }

/-- The four payload words of a STATUS the BX8 sends (R157, R217). -/
def buildStatus (p : StatusPayload) : List Word :=
  [wordOfBytes p.state p.accept (byteOfNat (bitOf p.valid 0)) p.generation, wordOfHalves p.head 0, 0, 0]

/-- Byte j of the PROVE pattern of index i: (i × 7 + j) mod 256 (R27). -/
def proveByte (i : Byte) (j : Nat) : Byte := byteOfNat (i.toNat * 7 + j)

/-- Payload word k of the PROVE pattern of index i. -/
def proveWord (i : Byte) (k : Nat) : Word :=
  wordOfBytes (proveByte i (4 * k)) (proveByte i (4 * k + 1)) (proveByte i (4 * k + 2)) (proveByte i (4 * k + 3))

/-- The n pattern words from word k on. -/
def proveWordsFrom (i : Byte) : Nat → Nat → List Word
  | _, 0 => []
  | k, n + 1 => proveWord i k :: proveWordsFrom i (k + 1) n

/-- The 64 payload words of a PROVE of index i (R158). -/
def buildProve (i : Byte) : List Word := proveWordsFrom i 0 64

/-- Whether payload word k agrees with the pattern in its bytes below the length (R27). -/
def proveWordMatches (i : Byte) (length k : Nat) (w : Word) : Bool :=
  [0, 1, 2, 3].all fun n => 4 * k + n ≥ length || byteOf w n == proveByte i (4 * k + n)

/-! ## Submission records, completion words, count words -/

/-- The items of a submission record as its three fetched words give them (R218). -/
structure SubmissionRecord where
  buffer  : Word
  length  : Nat
  cls     : Nat
  hostTag : Half
deriving DecidableEq, Repr

def parseSubmission (w0 w1 w2 : Word) : SubmissionRecord :=
  { buffer := w0, length := (highHalf w1).toNat, cls := (byteOf w1 2).toNat, hostTag := highHalf w2 }

/-- The six completion statuses (R130). -/
inductive Status where
  | sent | expired | stalled | aborted | badRecord | fault
deriving DecidableEq, Repr

/-- The status codes of R130. -/
def Status.code : Status → Byte
  | .sent => 1 | .expired => 2 | .stalled => 3 | .aborted => 4 | .badRecord => 5 | .fault => 6

/-- The completion word: status, fragments published, host tag (R218). -/
def completionWord (st : Status) (fragments : Nat) (hostTag : Half) : Word :=
  wordOfHalves (st.code ++ byteOfNat fragments) hostTag

/-- A count word: bytes 0..1 written 0, the count in bytes 2..3 (R220). -/
def countWord (c : Half) : Word := wordOfHalves 0 c

/-! ## The Profile Block's image (R198, R221) -/

/-- The image of the 1024 words of the Profile Block. -/
abbrev Image := Vector Word 1024

/-- The value of an aperture base that is not placed. -/
def unplacedWord : Word := 0xFFFFFFFF#32

/-- The default values of fields 0..33 (R221). The commit word's default is serial 0, mode 0. -/
def defaultGlobals : List Word :=
  [0, 255, 0, 1, 10, 0, 50, 0, unplacedWord, unplacedWord, unplacedWord, unplacedWord, unplacedWord, 8, unplacedWord, 16,
   60, 400, 100, 2000, 50, 1, 8, 500, 1000, 60, 30, 2000, 16, 32, 0, 0, 0, 0]

/-- The default values of a pair's 16 words (R221). -/
def defaultPairBlock : List Word :=
  [0, 0, unplacedWord, 8, 0, 1, 1016, 255, 1, 0, 0, 0, 0, 0, 0, 0]

/-- The words of the default profile; offsets without a meaning hold 0. -/
def defaultWords : List Word :=
  defaultGlobals ++ List.replicate 30 0 ++ defaultPairBlock ++ defaultPairBlock ++ defaultPairBlock ++ defaultPairBlock ++
    defaultPairBlock ++ defaultPairBlock ++ defaultPairBlock ++ defaultPairBlock ++ List.replicate 832 0

/-- The default profile's image (R198). -/
def defaultImage : Image :=
  ⟨⟨defaultWords⟩, by
    simp only [List.size_toArray, defaultWords, List.length_append, List.length_replicate]
    decide⟩

/-- The image with one word replaced; a field number past the block changes nothing. -/
def Image.setField (a : Image) (field : Nat) (w : Word) : Image :=
  if h : field < 1024 then a.set field w h else a

end Sys2Proof.Machine
end

