-- ==== Sys2Proof/Machine/Settings.lean ====
section
/-! DEFINITION. The settings of a profile, each read from its word of the image by its field number (R221). -/

namespace Sys2Proof.Machine

/-- The word of a field. -/
def Image.word (a : Image) (field : Nat) : Word := a.toList.getD field 0

/-- The number in a field. -/
def Image.num (a : Image) (field : Nat) : Nat := (a.word field).toNat

/-- An aperture base: absent when written as 0xFFFF_FFFF (11.6). -/
def Image.base (a : Image) (field : Nat) : Option Nat :=
  if a.word field = unplacedWord then none else some (a.num field)

/-- Field k of pair p's block: field 64 + 16p + k. -/
def Image.pairField (p : Pair) (k : Nat) : Nat := 64 + 16 * p.val + k

/-! ## Global settings -/

/-- Whether a tag is taken as the control requester; 255 is "any" (R4, R221). -/
def Image.isControl (a : Image) (tag : Tag) : Bool := a.num 1 == 255 || a.num 1 == tag.val
def Image.guardOn (a : Image) : Bool := a.num 2 == 1
/-- The arbitration mode, ROUND_ROBIN being 2 and TRANSIT_FIRST 1. -/
def Image.roundRobin (a : Image) : Bool := a.num 3 == 2
def Image.epochLength (a : Image) : Word := a.word 4
/-- The report mode: 0 OFF, 1 PERIODIC, 2 ONE_SHOT. -/
def Image.reportMode (a : Image) : Nat := a.num 5
/-- The report interval in milliseconds. -/
def Image.reportInterval (a : Image) : Word := a.word 6 * 10#32
def Image.eventEnables (a : Image) : Half := lowHalf (a.word 7)
def Image.reportBase (a : Image) : Option Nat := a.base 8
def Image.countBase (a : Image) : Option Nat := a.base 9
def Image.deliveryRing (a : Image) : Option Nat := a.base 10
def Image.windowBase (a : Image) : Option Nat := a.base 11
def Image.submissionBase (a : Image) : Option Nat := a.base 12
def Image.submissionSize (a : Image) : Nat := a.num 13
def Image.poolBase (a : Image) : Option Nat := a.base 14
def Image.poolSize (a : Image) : Nat := a.num 15
def Image.skewLimit (a : Image) : Word := a.word 16
def Image.silenceLimit (a : Image) : Word := a.word 17
def Image.statusInterval (a : Image) : Word := a.word 18
def Image.provingPeriod (a : Image) : Word := a.word 19
def Image.provingMinimum (a : Image) : Nat := a.num 20
def Image.provingTolerance (a : Image) : Nat := a.num 21
def Image.errorBurstLimit (a : Image) : Nat := a.num 22
def Image.lossHoldoff (a : Image) : Word := a.word 23
def Image.retryHoldoff (a : Image) : Word := a.word 24
/-- The flap window in milliseconds. -/
def Image.flapWindow (a : Image) : Nat := a.num 25 * 1000
/-- The quarantine base in milliseconds. -/
def Image.quarantineBase (a : Image) : Nat := a.num 26 * 1000
def Image.transmitAge (a : Image) : Word := a.word 27
def Image.lockLimit (a : Image) : Nat := a.num 28
def Image.responseLimit (a : Image) : Nat := a.num 29
def Image.surgeEnable (a : Image) : Bool := a.num 30 == 1
def Image.bondSerial (a : Image) : Half := lowHalf (a.word 31)
def Image.ackSerial (a : Image) : Half := lowHalf (a.word 32)
def Image.oneShotSerial (a : Image) : Half := lowHalf (a.word 33)

/-! ## Settings of a pair -/

def Image.enabled (a : Image) (p : Pair) : Bool := a.num (Image.pairField p 0) == 1
/-- Whether a tag is pair p's transceiver tag. -/
def Image.isTransceiver (a : Image) (p : Pair) (tag : Tag) : Bool := a.num (Image.pairField p 1) == tag.val
def Image.ringBase (a : Image) (p : Pair) : Option Nat := a.base (Image.pairField p 2)
def Image.ringCells (a : Image) (p : Pair) : Nat := a.num (Image.pairField p 3)
def Image.cellRequest (a : Image) (p : Pair) : Nat := a.num (Image.pairField p 4)
def Image.weight (a : Image) (p : Pair) : Nat := a.num (Image.pairField p 5)
def Image.maxPayload (a : Image) (p : Pair) : Nat := a.num (Image.pairField p 6)
/-- The lane pin, absent when written as 255. -/
def Image.pin (a : Image) (p : Pair) : Option (Fin 8) :=
  if h : a.num (Image.pairField p 7) < 8 then some ⟨a.num (Image.pairField p 7), h⟩ else none
/-- Whether the distribution override is AUTO. -/
def Image.auto (a : Image) (p : Pair) : Bool := a.num (Image.pairField p 8) == 1
/-- Whether the injection mode is CONTINUOUS. -/
def Image.injectContinuous (a : Image) (p : Pair) : Bool := a.num (Image.pairField p 9) == 1
def Image.injectSerial (a : Image) (p : Pair) : Half := lowHalf (a.word (Image.pairField p 10))

/-- The cells a pair's ring has: the set cell count where the ring is placed, none otherwise (R6, R29). -/
def Image.ringSize (a : Image) (p : Pair) : Nat := if (a.ringBase p).isSome then a.ringCells p else 0

/-- The Submission Ring a profile places: base and record count (R119). -/
def Image.submissionRing (a : Image) : Option (Nat × Nat) := (a.submissionBase).map fun b => (b, a.submissionSize)

/-! ## Apertures and their extents (R3, R221) -/

/-- A placed range of addresses: base and byte size. -/
structure Extent where
  base : Nat
  size : Nat
deriving DecidableEq, Repr

def Extent.holds (x : Extent) (addr : Nat) : Bool := x.base ≤ addr && addr < x.base + x.size

def Extent.overlaps (x y : Extent) : Bool := x.base < y.base + y.size && y.base < x.base + x.size

def extentAt (base : Option Nat) (size : Nat) : List Extent :=
  match base with
  | some b => [⟨b, size⟩]
  | none => []

def reportSize : Nat := 4096
def countSize : Nat := 256
def deliveryRingSize : Nat := 1024
def windowSize : Nat := 262144
def profileSize : Nat := 4096

/-- The Profile Block's extent: strap value × 256 MiB, 4 KiB (R3). -/
def profileExtent (straps : BitVec 4) : Extent := ⟨straps.toNat * 268435456, profileSize⟩

/-- Every placed aperture of a profile but the Profile Block. -/
def Image.apertures (a : Image) : List Extent :=
  extentAt a.reportBase reportSize ++ extentAt a.countBase countSize ++ extentAt a.deliveryRing deliveryRingSize ++
    extentAt a.windowBase windowSize ++ extentAt a.submissionBase (16 * a.submissionSize) ++
    extentAt a.poolBase (1024 * a.poolSize) ++
    allPairs.flatMap fun p => extentAt (a.ringBase p) (1024 * a.ringCells p)

/-- The offset of an address in an aperture of this base and size, when it lies there. -/
def offsetIn (base : Option Nat) (size addr : Nat) : Option Nat :=
  match base with
  | some b => if b ≤ addr ∧ addr < b + size then some (addr - b) else none
  | none => none

end Sys2Proof.Machine
end

