-- ==== Sys2Proof/Machine/State.lean ====
section
/-! DEFINITION. The state of the BX8 as plain data: every piece of state the manual names, block by block, and its reset. -/

namespace Sys2Proof.Machine

/-! ## Outcomes that are not a next state -/

/-- Why the machine stops with a fault. -/
inductive Fault where
  /-- Raised by the answer rows: an OK answer that does not carry one word for each word of the read it answers (Conventions:
  "OK (with data, for a read)"). Packet memory gives no such answer. Safe (log entry 34). -/
  | malformedAnswer
deriving DecidableEq, Repr

/-- Why a command is refused. -/
inductive Refusal where
  /-- Raised by Dispatch for a row that has no meaning yet. Safe. -/
  | notModelled (mnemonic : String)
  /-- Raised by the four transaction rows: a transaction the link cannot carry, its address no word address or its word count
  outside 1..16 (Conventions, "Transactions"). Safe (log entry 34). -/
  | malformedTransaction
deriving DecidableEq, Repr

/-! ## Pins -/

/-- The pins of the part: levels of RESET_N and SURGE_N (true is high), ATTN_N as asserted or not, and the straps PBASE[3:0]. -/
structure Pins where
  resetN : Bool
  surgeN : Bool
  attn   : Bool
  straps : BitVec 4
deriving DecidableEq, Repr

/-! ## The Memory Path (chapter 1) -/

/-- The kinds of a memory-link transaction. -/
inductive TxKind where
  | read | write | lockedRead | lockedWrite
deriving DecidableEq, Repr

/-- The classes of a receive ring write (R6). -/
inductive RingClass where
  | owner | ownerPartial | foreign
deriving DecidableEq, Repr

/-- What a write hands to its owning block once memory has answered it OK (R11), fixed when the write is taken (R1). -/
inductive HandOn where
  /-- Words captured into the pending profile: field number and value (R4). -/
  | capture (words : List (Nat × Word))
  /-- The submission producer count (R120). -/
  | submissionProducer (value : Half)
  /-- The delivery consumer count (R109). -/
  | deliveryConsumer (value : Half)
  /-- The transmit consumer count of a pair (R141). -/
  | transmitConsumer (pair : Pair) (value : Half)
  /-- A write into a pair's receive ring: its class, cell, first offset in the cell and data (R6, R28). -/
  | ringWrite (pair : Pair) (cls : RingClass) (cell offset : Nat) (words : List Word)
deriving DecidableEq, Repr

/-- Where a piece of a redirected read stands (R105, R106, R107). -/
inductive PieceStage where
  /-- The second piece, before the first has been granted. -/
  | later
  | waiting
  | issued
  | ended (words : List Word)
  | failed
  | withdrawn
deriving DecidableEq, Repr

/-- One piece of a redirected read: a run of whole words of one cell (R102). -/
structure Piece where
  addr  : Word
  count : Nat
  stage : PieceStage
deriving DecidableEq, Repr

/-- An accepted redirected read: its frame's count, its first slot byte, the frame's length, its pieces and whether one has failed. -/
structure Redirect where
  frame   : Half
  start   : Nat
  length  : Nat
  pieces  : List Piece
  faulted : Bool
deriving DecidableEq, Repr

/-- Where an open upstream transaction stands (R1). -/
inductive UpStage where
  | waiting
  | issued
  | held
  | redirected (r : Redirect)
deriving DecidableEq, Repr

/-- An open upstream transaction with its classification (R1). -/
structure UpTx where
  label     : Label
  tag       : Tag
  kind      : TxKind
  addr      : Word
  count     : Nat
  data      : List WriteWord
  /-- A watched write, held back by R12. -/
  watched   : Bool
  /-- A publication-range read (R8, R212). -/
  pubRange  : Bool
  /-- A read that returns the event-set field of the Event Word, in its first word (R8, R210). -/
  eventRead : Bool
  handOn    : List HandOn
  stage     : UpStage
deriving DecidableEq, Repr

/-- What a downstream transaction was issued for (R2). -/
inductive Issuer where
  | forward (label : Label)
  | piece (label : Label) (second : Bool)
  | pointer
  | eventWord
  | copierRead
  | copierWrite
  | fetch
  | publisher
deriving DecidableEq, Repr

/-- An issued downstream transaction: its issue time and response limit in microseconds, and whether the limit has ended it (R19). -/
structure DownTx where
  kind     : TxKind
  addr     : Word
  count    : Nat
  tag      : Tag
  data     : List WriteWord
  issuer   : Issuer
  issuedAt : Nat
  limit    : Nat
  timedOut : Bool
deriving DecidableEq, Repr

/-- An open lock: owner tag, lock address, start time in microseconds and the lock limit in force when it opened (R17, R18). -/
structure Lock where
  owner : Tag
  addr  : Word
  start : Nat
  limit : Nat
deriving DecidableEq, Repr

/-- The five requesters of the Path Arbiter, in table order (section 1.4). -/
inductive Requester where
  | passThrough | pointerWriter | copier | submissionFetch | reportPublisher
deriving DecidableEq, Repr

/-- A Pointer Writer target (R16): a Count Block word by its offset, a delivery record by its slot, a completion word by its
address, or the Event Word. -/
inductive Target where
  | countWord (offset : Nat)
  | deliveryRecord (slot : Nat)
  | completion (addr : Nat)
  | eventWord
deriving DecidableEq, Repr

/-- A pending Pointer Writer write. -/
structure PointerEntry where
  target : Target
  value  : List Word
deriving DecidableEq, Repr

/-- A response returned upstream, under the label and tag of its transaction (R1). -/
structure Response where
  label : Label
  tag   : Tag
  ok    : Bool
  data  : List Word
deriving DecidableEq, Repr

structure Path where
  /-- Open upstream transactions in the order they were taken. -/
  up        : List UpTx
  /-- Open downstream transactions by downstream label. -/
  down      : Vector (Option DownTx) 8
  lock      : Option Lock
  turn      : Requester
  streak    : Nat
  pointer   : List PointerEntry
  /-- The Downstream Port's quiet period after RESET_N returned high, and its start in microseconds (R22). -/
  quiet     : Bool
  quietFrom : Nat
deriving DecidableEq, Repr

/-! ## The Pair Record (chapters 2, 3, 7, 8) -/

/-- The seven pair states (R163). -/
inductive PairState where
  | out | down | proving | active | lost | quarantine | held
deriving DecidableEq, Repr

/-- The reasons of OUT and DOWN (R163). -/
inductive Reason where
  | none | draining | noCells | laneConflict | provingFailed | silent | holdoff
deriving DecidableEq, Repr

/-- The outcome of a proving record. -/
inductive ProvingOutcome where
  | none | pass | fail
deriving DecidableEq, Repr

/-- The proving record (R172, R173). -/
structure Proving where
  sent     : Half
  received : Half
  errored  : Half
  outcome  : ProvingOutcome
deriving DecidableEq, Repr

inductive LaneSource where
  | pinned | learned
deriving DecidableEq, Repr

/-- A pair's Lane Map entry (R40). -/
structure LaneEntry where
  lane   : Fin 8
  source : LaneSource
deriving DecidableEq, Repr

inductive Holder where
  | window | delivery
deriving DecidableEq, Repr

/-- The state of a receive cell (R29). -/
inductive Cell where
  | free
  | landing (use : Half)
  | held (use : Half) (holder : Holder)
deriving DecidableEq, Repr

/-- The landing cursor (section 2.4). -/
inductive Cursor where
  | idle
  /-- The first header word has been observed. -/
  | header (first : Word)
  /-- The header is valid: words seen, the header, the PROVE comparison so far and the captured STATUS payload words. -/
  | payload (seen : Nat) (hdr : Header) (matching : Bool) (captured : List Word)
  | absorbing (cause : ErrorCause)
deriving DecidableEq, Repr

/-- A pair's run in the Transmit Pool: first cell and count (R138). -/
structure Alloc where
  first : Nat
  count : Nat
deriving DecidableEq, Repr

structure PairRec where
  -- Pair Supervisor
  state        : PairState
  reason       : Reason
  silence      : Option Time
  deadline     : Option Time
  recentErrors : Nat
  proving      : Proving
  flaps        : List Time
  factor       : Nat
  entered      : Option Time
  peerState    : Byte
  -- Landing Unit
  lane         : Option LaneEntry
  cells        : List Cell
  landed       : Half
  released     : Half
  cursor       : Cursor
  lastError    : ErrorCause
  /-- A drained notice on its way to the Pair Supervisor (R32, R167). -/
  drained      : Bool
  -- Resequencer
  horizon      : Option Half
  -- Distributor
  alloc        : Alloc
  fill         : Half
  produced     : Half
  consumed     : Half
  credit       : Int
  statusDue    : Bool
  statusTimer  : Option Time
  lastProve    : Option Time
  proveIndex   : Byte
  injectOnce   : Bool
  counters     : Vector Word 40
deriving DecidableEq, Repr

/-! ## The Resequencer (chapters 3, 4) -/

/-- The landed record of a window position (R46). -/
structure Landed where
  pair   : Pair
  cell   : Nat
  use    : Half
  length : Nat
  s      : Bool
  e      : Bool
  time   : Time
deriving DecidableEq, Repr

/-- A window position (R46). -/
inductive Pos where
  | empty
  | landed (r : Landed)
  | lost
deriving DecidableEq, Repr

/-- An ARMED skew timer (R75). -/
structure Skew where
  gap       : Half
  reference : Half
  refTime   : Time
  deadline  : Time
deriving DecidableEq, Repr

structure Reseq where
  generation     : Byte
  synced         : Bool
  head           : Half
  /-- Position k stands for sequence number head + k (R46). -/
  window         : Vector Pos 512
  blocked        : Bool
  lostTally      : Half
  discardedTally : Half
  skew           : Option Skew
deriving DecidableEq, Repr

/-! ## The Delivery Unit (chapter 5) -/

/-- An entry of a frame's fragment list (R95). -/
structure FragEntry where
  pair   : Pair
  cell   : Nat
  use    : Half
  length : Nat
  isVoid : Bool
deriving DecidableEq, Repr

/-- A frame record of the Delivery Queue (R95). -/
structure FrameRec where
  count       : Half
  generation  : Byte
  firstSeq    : Half
  length      : Nat
  mask        : Byte
  overwritten : Bool
  fragments   : List FragEntry
  note        : Option (Half × Half)
  pins        : Nat
  retiring    : Bool
deriving DecidableEq, Repr

structure Delivery where
  queue       : List FrameRec
  producer    : Half
  consumer    : Half
  oldest      : Half
  /-- Room notices on their way to the Resequencer (R111). -/
  roomNotices : Nat
deriving DecidableEq, Repr

/-! ## The Submission Unit (chapter 6) -/

inductive TxClass where
  | express | bulk
deriving DecidableEq, Repr

/-- A Transmit Queue entry (R123, R125). -/
structure TxEntry where
  number    : Half
  buffer    : Word
  length    : Nat
  cls       : TxClass
  hostTag   : Half
  /-- The completion word's address (R131). -/
  complAddr : Nat
  fetchTime : Time
  bytesCut  : Nat
  published : Nat
  /-- Absent while WAITING; the stall base while CUTTING (R128). -/
  cutting   : Option Time
  /-- The status the frame's first release fixed (R129, R154). -/
  releaseAs : Option Status
deriving DecidableEq, Repr

/-- A fetch in flight: the record's number, its slot's address, and whether its read has been granted (R122). -/
structure Fetch where
  number : Half
  slot   : Nat
  issued : Bool
deriving DecidableEq, Repr

/-- The Submission Ring the unit works on (R119). -/
structure Ring where
  base : Nat
  size : Nat
deriving DecidableEq, Repr

structure Submission where
  ring        : Option Ring
  ringWaiting : Bool
  produced    : Half
  fetched     : Half
  completed   : Half
  fetch       : Option Fetch
  queue       : List TxEntry
deriving DecidableEq, Repr

/-! ## The Distributor (chapter 7) -/

/-- A recompute target with the pool it was computed from (R138, R139). -/
structure AllocTarget where
  allocs   : Vector Alloc 8
  poolBase : Option Nat
  poolSize : Nat
deriving DecidableEq, Repr

/-- The frame being cut, as the Distributor holds it (R146). -/
structure CutFrame where
  buffer        : Nat
  length        : Nat
  number        : Half
  bytesCut      : Nat
  fragmentsCut  : Nat
deriving DecidableEq, Repr

/-- A DATA fragment with its sequence number: first byte in the frame, length, flags, and the number of sequence numbers given to
the frame before it (R147, R153). -/
structure Frag where
  sequence : Half
  first    : Nat
  length   : Nat
  s        : Bool
  e        : Bool
  given    : Nat
deriving DecidableEq, Repr

inductive WorkKind where
  | data (f : Frag)
  | status
  | prove
deriving DecidableEq, Repr

/-- What the Copier does next, or waits for (R150). -/
inductive Phase where
  | toRead
  | reading
  | toWrite (chunk : List Word)
  | writing (words : Nat)
deriving DecidableEq, Repr

/-- The Copier's work (R149). -/
structure Work where
  kind      : WorkKind
  pair      : Pair
  /-- The byte address of the transmit cell. -/
  cellBase  : Nat
  /-- The header words of a DATA fragment; all words of a STATUS or PROVE. -/
  words     : List Word
  /-- The byte address of a DATA fragment's first payload byte. -/
  source    : Nat
  /-- Payload words (DATA) or words (control) written so far. -/
  done      : Nat
  phase     : Phase
  abandoned : Bool
  /-- The pair's counts were set to 0 while the work was open (R142). -/
  detached  : Bool
  spoilt    : Bool
deriving DecidableEq, Repr

structure Dist where
  /-- The transmit generation; absent while undetermined. -/
  generation  : Option Byte
  nextSeq     : Half
  poolBase    : Option Nat
  poolSize    : Nat
  target      : Option AllocTarget
  dataTurn    : Pair
  controlTurn : Pair
  frame       : Option CutFrame
  /-- The frame is being released and has not yet been reported released (R155). -/
  dropping    : Bool
  toReplace   : Option Frag
  copier      : Option Work
deriving DecidableEq, Repr

/-! ## The Pair Supervisor's part-wide items, Surge Monitor, Profile Unit, Timebase, Report Unit -/

structure Supervisor where
  peerMap        : Byte
  peerValid      : Bool
  peerGeneration : Byte
  peerHead       : Half
  /-- The Pair Supervisor's view of the surge stop (R190). -/
  stopView       : Bool
deriving DecidableEq, Repr

structure Surge where
  flag : Bool
  stop : Bool
deriving DecidableEq, Repr

inductive RejectCode where
  | none | range | overlap | liveRing | pinConflict
deriving DecidableEq, Repr

structure ProfileUnit where
  /-- The pending profile. -/
  image        : Image
  active       : Image
  waiting      : Option Half
  lastApplied  : Option Half
  lastRejected : Option Half
  rejectCode   : RejectCode
  rejectField  : Half
  actedBond    : Half
  actedAck     : Half
  actedOneShot : Half
  actedInject  : Vector Half 8
deriving DecidableEq, Repr

inductive ClockSource where
  | reference | internal
deriving DecidableEq, Repr

structure Clock where
  time       : Time
  source     : ClockSource
  epochCount : Half
  nextEpoch  : Time
deriving DecidableEq, Repr

inductive PubState where
  | idle | due | publishing
deriving DecidableEq, Repr

/-- The publication write posted to the Report Publisher: index 0..63, content, and whether it has been issued (R213). -/
structure PubWrite where
  index  : Nat
  data   : List Word
  issued : Bool
deriving DecidableEq, Repr

structure Report where
  events     : Half
  fresh      : Half
  afterIssue : Half
  repost     : Bool
  pubState   : PubState
  /-- The 64th write has been answered and the held reads have not yet been released (R213). -/
  ended      : Bool
  followOn   : Bool
  pubCount   : Half
  /-- The publication count of the last publication that has ended (R209). -/
  endedCount : Half
  pubStart   : Time
  pubBase    : Nat
  pubWrite   : Option PubWrite
  timer      : Option Time
deriving DecidableEq, Repr

/-! ## The state -/

structure State where
  pins      : Pins
  path      : Path
  pairs     : Vector PairRec 8
  reseq     : Reseq
  deliv     : Delivery
  subm      : Submission
  dist      : Dist
  sup       : Supervisor
  surge     : Surge
  prof      : ProfileUnit
  clock     : Clock
  rep       : Report
  /-- The 64 global counters in the order of R222. -/
  counters  : Vector Word 64
  /-- The model's record of the responses the Upstream Port has returned, oldest first (log entry 7). -/
  responses : List Response
  /-- The model's own: the index of the next free value (log entry 9). -/
  freeIndex : Nat
  /-- The commands waiting, first in, first out. -/
  pending   : List Instr
deriving DecidableEq, Repr

/-! ## Reset values -/

/-- A Pair Record after FULL RESET (R45, R71, R161, R185). -/
def PairRec.reset : PairRec :=
  { state := .out, reason := .none, silence := none, deadline := none, recentErrors := 0,
    proving := { sent := 0, received := 0, errored := 0, outcome := .none }, flaps := [], factor := 0, entered := none,
    peerState := 0, lane := none, cells := [], landed := 0, released := 0, cursor := .idle, lastError := .none,
    drained := false, horizon := none, alloc := { first := 0, count := 0 }, fill := 0, produced := 0, consumed := 0,
    credit := 0, statusDue := false, statusTimer := none, lastProve := none, proveIndex := 0, injectOnce := false,
    counters := Vector.replicate 40 0 }

/-- The machine right after reset: RESET_N has returned high with SURGE_N high, and the Downstream Port's quiet period has begun
(R22, R45, R71, R94, R115, R134, R161, R185, R194, R204 to R207, R215; log entry 5). -/
def State.reset : State :=
  { pins := { resetN := true, surgeN := true, attn := false, straps := 0 }
    path := { up := [], down := Vector.replicate 8 none, lock := none, turn := .passThrough, streak := 0, pointer := [],
              quiet := true, quietFrom := 0 }
    pairs := Vector.replicate 8 PairRec.reset
    reseq := { generation := 0, synced := false, head := 0, window := Vector.replicate 512 .empty, blocked := false,
               lostTally := 0, discardedTally := 0, skew := none }
    deliv := { queue := [], producer := 0, consumer := 0, oldest := 0, roomNotices := 0 }
    subm := { ring := none, ringWaiting := false, produced := 0, fetched := 0, completed := 0, fetch := none, queue := [] }
    dist := { generation := none, nextSeq := 0, poolBase := none, poolSize := 0, target := none, dataTurn := 0,
              controlTurn := 0, frame := none, dropping := false, toReplace := none, copier := none }
    sup := { peerMap := 0, peerValid := false, peerGeneration := 0, peerHead := 0, stopView := false }
    surge := { flag := false, stop := false }
    prof := { image := defaultImage, active := defaultImage, waiting := none, lastApplied := none, lastRejected := none,
              rejectCode := .none, rejectField := 0, actedBond := 0, actedAck := 0, actedOneShot := 0,
              actedInject := Vector.replicate 8 0 }
    clock := { time := 0, source := .internal, epochCount := 0, nextEpoch := 10 }
    rep := { events := 0, fresh := 0, afterIssue := 0, repost := false, pubState := .idle, ended := false,
             followOn := false, pubCount := 0, endedCount := 0, pubStart := 0, pubBase := 0, pubWrite := none, timer := none }
    counters := Vector.replicate 64 0
    responses := []
    freeIndex := 0
    pending := [] }

end Sys2Proof.Machine
end

