-- ==== Sys2Proof/Machine/Ops.lean ====
section
/-! DEFINITION. The operations every block shares: counters, the Pair Records, upstream responses, and the Pointer Writer's list. -/

namespace Sys2Proof.Machine

/-! ## Taking a step -/

/-- The step is taken only while RESET_N is high: a part held in reset takes nothing (R22; log entry 6). -/
def State.whenUp (s : State) (f : State → State) : State := if s.pins.resetN then f s else s

/-- A step whose condition does not hold does not happen (log entry 1). -/
def State.whenever (s : State) (c : Bool) (f : State → State) : State := if c then f s else s

/-! ## Counters -/

/-- The value of a global counter. -/
def State.count (s : State) (c : GCounter) : Word := s.counters[c.index.val]

/-- A global counter increased by n, stopping at its maximum (Conventions, "Counters"). -/
def State.bump (s : State) (c : GCounter) (n : Nat := 1) : State :=
  { s with counters := s.counters.set c.index.val (satAdd32 s.counters[c.index.val] n) }

/-! ## Pair Records -/

/-- The record of a pair. -/
def State.pair (s : State) (p : Pair) : PairRec := s.pairs[p.val]

/-- A pair's record changed. -/
def State.modPair (s : State) (p : Pair) (f : PairRec → PairRec) : State :=
  { s with pairs := s.pairs.set p.val (f s.pairs[p.val]) }

/-- The value of a pair's counter. -/
def PairRec.count (r : PairRec) (c : PCounter) : Word := r.counters[c.index.val]

def PairRec.bump (r : PairRec) (c : PCounter) (n : Nat) : PairRec :=
  { r with counters := r.counters.set c.index.val (satAdd32 r.counters[c.index.val] n) }

/-- A pair's counter increased by n, stopping at its maximum. -/
def State.bumpPair (s : State) (p : Pair) (c : PCounter) (n : Nat := 1) : State := s.modPair p fun r => r.bump c n

/-- Whether some pair satisfies a test. -/
def State.anyPair (s : State) (f : PairRec → Bool) : Bool := allPairs.any fun p => f (s.pair p)

/-- An operation made for each pair in rising order (log entry 22). -/
def State.forPairs (s : State) (f : State → Pair → State) : State := allPairs.foldl f s

/-! ## The upstream link -/

/-- A response returned upstream (R1). -/
def State.respond (s : State) (r : Response) : State := { s with responses := s.responses ++ [r] }

/-- An ERROR answer (R1). -/
def errorResponse (label : Label) (tag : Tag) : Response := { label := label, tag := tag, ok := false, data := [] }

/-- An OK answer with its data (R1). -/
def okResponse (label : Label) (tag : Tag) (data : List Word) : Response :=
  { label := label, tag := tag, ok := true, data := data }

/-- The open upstream transaction of a label (R1: labels of open transactions are distinct). -/
def State.upTx (s : State) (label : Label) : Option UpTx := s.path.up.find? fun t => t.label == label

/-- The open upstream transactions changed. -/
def State.setUp (s : State) (up : List UpTx) : State := { s with path := { s.path with up := up } }

/-- An open upstream transaction moved to another stage. -/
def State.setStage (s : State) (label : Label) (stage : UpStage) : State :=
  s.setUp (s.path.up.map fun t => if t.label = label then { t with stage := stage } else t)

/-- An open upstream transaction answered: its response is returned and it is no longer open (R1). -/
def State.closeUp (s : State) (r : Response) : State :=
  (s.setUp (s.path.up.filter fun t => t.label ≠ r.label)).respond r

/-! ## The downstream labels -/

/-- The transaction open under a downstream label. -/
def State.downTx (s : State) (d : Label) : Option DownTx := s.path.down[d.val]

/-- A downstream label set or released (R2). -/
def State.setDown (s : State) (d : Label) (t : Option DownTx) : State :=
  { s with path := { s.path with down := s.path.down.set d.val t } }

/-- Whether a transaction is open, that is, issued and not yet ended, for an issuer (R2, R19: a timed-out one has ended). -/
def isOpenFor (f : Issuer → Bool) : Option DownTx → Bool
  | some t => !t.timedOut && f t.issuer
  | none => false

def State.anyOpen (s : State) (f : Issuer → Bool) : Bool := s.path.down.toList.any (isOpenFor f)

def Issuer.isEventWord : Issuer → Bool
  | .eventWord => true
  | _ => false

/-- The Pointer Writer's own writes, the Event Word's among them (R16). -/
def Issuer.isPointer : Issuer → Bool
  | .pointer => true
  | .eventWord => true
  | _ => false

/-! ## The Pointer Writer's list (R16) -/

/-- Whether an entry keeps its place when its target is posted again: a delivery record or a completion word does, a Count Block
word or the Event Word joins the tail (R16). -/
def Target.keepsPlace : Target → Bool
  | .deliveryRecord _ => true
  | .completion _ => true
  | .countWord _ => false
  | .eventWord => false

/-- The list with a posting made: at most one entry per target, with the latest value (R16). A completion word posted while 256 wait
joins the tail like any other (log entry 41). -/
def postTo (list : List PointerEntry) (t : Target) (v : List Word) : List PointerEntry :=
  if list.any (fun e => e.target == t) ∧ t.keepsPlace then
    list.map fun e => if e.target = t then { e with value := v } else e
  else list.filter (fun e => e.target ≠ t) ++ [{ target := t, value := v }]

/-- A posting to the Pointer Writer. -/
def State.post (s : State) (t : Target) (v : List Word) : State :=
  { s with path := { s.path with pointer := postTo s.path.pointer t v } }

/-- A posting of a Count Block word; none is made while the Count Block is not placed (R30, R99, R161). -/
def State.postWord (s : State) (offset : Nat) (w : Word) : State :=
  if s.prof.active.countBase.isSome then s.post (.countWord offset) [w] else s

/-- A posting of a count word: bytes 0..1 are written 0 (R220). -/
def State.postCount (s : State) (offset : Nat) (c : Half) : State := s.postWord offset (countWord c)

/-- The Count Block offsets of a pair's words (R220). -/
def releaseOffset (p : Pair) : Nat := 16 + 16 * p.val
def txProducerOffset (p : Pair) : Nat := 20 + 16 * p.val
def txConsumerOffset (p : Pair) : Nat := 24 + 16 * p.val
def allocOffset (p : Pair) : Nat := 28 + 16 * p.val

/-! ## The current time -/

/-- The Timebase's millisecond time (R205). -/
def State.now (s : State) : Time := s.clock.time

/-- Whether a deadline is present and reached (R164, R205). -/
def State.due (s : State) (d : Option Time) : Bool :=
  match d with
  | some t => reached s.now t
  | none => false

end Sys2Proof.Machine
end

