-- ==== Sys2Proof/Machine/Flags.lean ====
section
/-! DEFINITION. The event set, the Event Word and ATTN_N (section 10.3; R208, R209, R210, R222). -/

namespace Sys2Proof.Machine

/-- The event's flag as a set of one (R222). -/
def Event.mask (e : Event) : Half := 1#16 <<< e.bit.val

/-- ATTN_N is asserted exactly while the event set and the enable set share a flag (R208). -/
def State.attention (s : State) : Bool := s.rep.events &&& s.prof.active.eventEnables ≠ 0

/-- ATTN_N recomputed. -/
def State.refreshAttn (s : State) : State := { s with pins := { s.pins with attn := s.attention } }

/-- The Event Word's content as it stands: event set, enable set, the publication count of the last publication ended, the time
(R209, R222). -/
def State.eventContent (s : State) : List Word :=
  [wordOfHalves s.rep.events s.prof.active.eventEnables, wordOfHalves s.rep.endedCount 0, s.now, 0]

/-- The Event Word posted, or the repost mark set while an Event Word write is open; nothing while the Report Block is not placed
(R209). -/
def State.postEventWord (s : State) : State :=
  if s.prof.active.reportBase.isSome then
    if s.anyOpen Issuer.isEventWord then { s with rep := { s.rep with repost := true } }
    else s.post .eventWord s.eventContent
  else s

/-- An event's flag set in the event set, and added to the fresh set and the after-issue set, with ATTN_N recomputed (R208, R209). -/
def State.setEvent (s : State) (e : Event) : State :=
  State.refreshAttn
    { s with rep := { s.rep with events := s.rep.events ||| e.mask, fresh := s.rep.fresh ||| e.mask,
                                 afterIssue := s.rep.afterIssue ||| e.mask } }

/-- An event raised (R208). -/
def State.raise (s : State) (e : Event) : State := (s.setEvent e).postEventWord

/-- Clear-on-read with the event-set field a read returned: every flag shown and not fresh is removed; when one is, the Event Word
is posted, ATTN_N recomputed and EVENT_CLEAR counted (R210). -/
def State.clearOnRead (s : State) (shown : Half) : State :=
  let cleared := s.rep.events &&& shown &&& ~~~ s.rep.fresh
  if cleared = 0 then s
  else
    ((State.refreshAttn { s with rep := { s.rep with events := s.rep.events &&& ~~~ cleared } }).postEventWord).bump .eventClear

end Sys2Proof.Machine
end

