-- ==== Sys2Proof/Machine/Submission.lean ====
section
/-! DEFINITION. The Submission Unit (chapter 6): the ring in use, the producer count, fetches, the Transmit Queue and completions. -/

namespace Sys2Proof.Machine

def State.modSubm (s : State) (f : Submission → Submission) : State := { s with subm := f s.subm }

/-! ## The completed count (R121) -/

/-- The uncompleted submissions that have been fetched or are being fetched. -/
def Submission.uncompleted (u : Submission) : List Half :=
  u.queue.map TxEntry.number ++ (match u.fetch with
    | some f => [f.number]
    | none => [])

/-- The number least far from k, starting from a first one (R121). -/
def nearest (k : Half) (first : Half) (others : List Half) : Half :=
  others.foldl (fun m n => if distance n k < distance m k then n else m) first

/-- K recomputed (R121). -/
def Submission.recount (u : Submission) : Submission :=
  { u with completed := match u.uncompleted with
      | [] => u.fetched
      | n :: ns => nearest u.completed n ns }

def State.recount (s : State) : State := s.modSubm Submission.recount

/-! ## Completion (R130, R131) -/

/-- The global count named by a status (R135). -/
def Status.counter : Status → GCounter
  | .sent => .sent | .expired => .expired | .stalled => .stalled | .aborted => .aborted | .badRecord => .badRecord
  | .fault => .fault

/-- A submission completes: its word is posted, SUBMIT_DONE is raised and its status is counted (R130, R131). -/
def State.complete (s : State) (addr : Nat) (st : Status) (fragments : Nat) (hostTag : Half) : State :=
  ((s.post (.completion addr) [completionWord st fragments hostTag]).raise .submitDone).bump st.counter

/-- A queue entry leaves by its completion, and K is recomputed (R121, R130). -/
def State.completeEntry (s : State) (e : TxEntry) (st : Status) : State :=
  ((s.modSubm fun u => { u with queue := u.queue.filter fun x => x.number ≠ e.number }).complete
    e.complAddr st e.published e.hostTag).recount

/-! ## The producer count (R120) -/

/-- The room of the producer count: (K + M − P) mod 65536, 0 with no ring in use (R120). -/
def Submission.room (u : Submission) : Nat :=
  match u.ring with
  | some r => distance (u.completed + halfOf r.size) u.produced
  | none => 0

/-- The submission producer count is taken (R120). -/
def State.takeProducer (s : State) (value : Half) : State :=
  if distance value s.subm.produced > s.subm.room then (s.bump .badProducer).raise .foreignAccess
  else s.modSubm fun u => { u with produced := value }

/-! ## Fetching (R122 to R124) -/

/-- The four conditions of a fetch (R122). -/
def Submission.canFetch (u : Submission) : Bool :=
  u.ring.isSome && u.fetched != u.produced && u.fetch.isNone && u.queue.length < 32

/-- A fetch is offered (R122). -/
def State.offerFetch (s : State) : State :=
  match s.subm.ring with
  | none => s
  | some r =>
    let slot := r.base + 16 * (s.subm.fetched.toNat % r.size)
    ((s.modSubm fun u => { u with fetch := some { number := u.fetched, slot := slot, issued := false },
                                  fetched := u.fetched + 1 }).recount).bump .fetched

/-- Whether a record's buffer overlaps the Transmit Pool or the Delivery Window of the active profile (R123). -/
def State.bufferClash (s : State) (x : Extent) : Bool :=
  (extentAt s.prof.active.poolBase (1024 * s.prof.active.poolSize) ++ extentAt s.prof.active.windowBase windowSize).any
    (Extent.overlaps x)

/-- The class of a record (R119). -/
def classOf (n : Nat) : Option TxClass :=
  if n = 1 then some .express else if n = 2 then some .bulk else none

/-- The record check of R123: the class of a good record, none for a bad one. -/
def State.checkRecord (s : State) (r : SubmissionRecord) : Option TxClass :=
  if r.length = 0 ∨ r.length > 4096 ∨ r.buffer.toNat % 4 ≠ 0 ∨ r.buffer.toNat + r.length > 4294967296 then none
  else if s.bufferClash ⟨r.buffer.toNat, r.length⟩ then none
  else classOf r.cls

/-- A fetch answered OK: the record joins the queue WAITING, or is completed BAD_RECORD (R123). -/
def State.fetched (s : State) (f : Fetch) (r : SubmissionRecord) : State :=
  let t := s.modSubm fun u => { u with fetch := none }
  match s.checkRecord r with
  | none => (t.recount).complete (f.slot + 12) .badRecord 0 r.hostTag
  | some c =>
    (t.modSubm fun u => { u with queue := u.queue ++
      [{ number := f.number, buffer := r.buffer, length := r.length, cls := c, hostTag := r.hostTag,
         complAddr := f.slot + 12, fetchTime := s.now, bytesCut := 0, published := 0, cutting := none,
         releaseAs := none }] }).recount

/-- A fetch that failed: its submission is completed FAULT with host tag 0 (R124). -/
def State.fetchFailed (s : State) (f : Fetch) : State :=
  (((s.modSubm fun u => { u with fetch := none }).recount).complete (f.slot + 12) .fault 0 0).bump .fetchFault

/-! ## The Transmit Queue (R125 to R128) -/

def TxEntry.isWaiting (e : TxEntry) : Bool := e.cutting.isNone

/-- The entry a request selects: the oldest WAITING EXPRESS one, else the oldest WAITING BULK one (R126). -/
def Submission.select (u : Submission) : Option TxEntry :=
  match u.queue.find? fun e => e.isWaiting && e.cls == .express with
  | some e => some e
  | none => u.queue.find? fun e => e.isWaiting && e.cls == .bulk

/-- The frame being cut, as the Submission Unit holds it. -/
def Submission.cuttingEntry (u : Submission) : Option TxEntry := u.queue.find? fun e => !e.isWaiting

/-- The entry of a submission changed. -/
def State.modEntry (s : State) (number : Half) (f : TxEntry → TxEntry) : State :=
  s.modSubm fun u => { u with queue := u.queue.map fun e => if e.number = number then f e else e }

/-- Whether a WAITING entry's age deadline is reached (R127). -/
def State.aged (s : State) (e : TxEntry) : Bool := e.isWaiting && reached s.now (e.fetchTime + s.prof.active.transmitAge)

/-- The age expiry of a submission (R127). -/
def State.expireAge (s : State) (number : Half) : State :=
  match s.subm.queue.find? fun e => e.number == number && s.aged e with
  | some e => s.completeEntry e .expired
  | none => s

/-- The stall deadline of an entry being cut: its stall base plus the transmit age limit (R128). -/
def State.stallDeadline (s : State) (e : TxEntry) : Option Time := e.cutting.map fun b => b + s.prof.active.transmitAge

/-! ## Taking a ring into use (R132) -/

/-- The unit is idle (R132). -/
def Submission.idle (u : Submission) : Bool := u.queue.isEmpty && u.fetch.isNone && u.fetched == u.produced

/-- The active profile's ring is taken into use with P, F and K at 0 (R132). -/
def State.takeRing (s : State) : State :=
  s.modSubm fun u => { u with ring := s.prof.active.submissionRing.map (fun x => ⟨x.1, x.2⟩), ringWaiting := false,
                              produced := 0, fetched := 0, completed := 0 }

/-- A changed ring: taken into use at once when the unit is idle, else waiting (R132). -/
def State.ringChanged (s : State) : State :=
  if s.subm.idle then s.takeRing else s.modSubm fun u => { u with ringWaiting := true }

/-! ## BOND RESTART (R133) -/

/-- Every WAITING entry is completed ABORTED, oldest first (R133). -/
def State.abortWaiting (s : State) : State :=
  (s.subm.queue.filter TxEntry.isWaiting).foldl (fun t e => t.completeEntry e .aborted) s

end Sys2Proof.Machine
end

