-- ==== Sys2Proof/Machine/Distributor.lean ====
section
/-! DEFINITION. The Distributor (chapter 7) with header injection (R195 to R197): transmit generation, pool, cells, eligibility,
credit, fragments, the Copier, and control fragments. -/

namespace Sys2Proof.Machine

def State.modDist (s : State) (f : Dist → Dist) : State := { s with dist := f s.dist }

/-- The transmit generation plus 1, where 255 plus 1 gives 1 (R136). -/
def nextGeneration (g : Byte) : Byte := if g = 255 then 1 else g + 1

/-! ## Allocations and recomputes (R138, R139) -/

/-- The request of a pair: 0 for a pair that is not enabled (R138). -/
def Image.requestOf (a : Image) (p : Pair) : Nat := if a.enabled p then a.cellRequest p else 0

/-- The pairs' allocations from a next free cell on (R138). -/
def shareOut (a : Image) (next : Nat) : List Pair → List Alloc
  | [] => []
  | p :: ps =>
    let grant := min (a.requestOf p) (a.poolSize - next)
    if grant < 4 then { first := 0, count := 0 } :: shareOut a next ps
    else { first := next, count := grant } :: shareOut a (next + grant) ps

/-- Eight allocations from a list. -/
def allocVector (xs : List Alloc) : Vector Alloc 8 :=
  ⟨⟨(xs ++ List.replicate 8 (Alloc.mk 0 0)).take 8⟩, by
    simp only [List.size_toArray, List.length_take, List.length_append, List.length_replicate]
    omega⟩

/-- The target a profile gives (R138). -/
def Image.target (a : Image) : AllocTarget :=
  { allocs := allocVector (shareOut a 0 allPairs), poolBase := a.poolBase, poolSize := a.poolSize }

/-- Whether a pending target changes a pair's allocation (R139; log entry 27). -/
def State.targetChanges (s : State) (p : Pair) : Bool :=
  match s.dist.target with
  | some t => t.allocs[p.val] != (s.pair p).alloc
  | none => false

/-- Whether a pair has a FILLING cell (R140). -/
def PairRec.isFilling (r : PairRec) : Bool := r.fill != r.produced

/-- The number of PUBLISHED cells of a pair (R140). -/
def PairRec.publishedCells (r : PairRec) : Nat := distance r.produced r.consumed

/-- The test of R139 for taking a target into use. -/
def State.targetReady (s : State) : Bool :=
  allPairs.all fun p =>
    !s.targetChanges p || (!(s.pair p).isFilling && !((s.pair p).state == .active && (s.pair p).publishedCells != 0))

/-- A pair's allocation word (R138, R220). -/
def allocWord (a : Alloc) : Word := wordOfHalves (halfOf a.first) (halfOf a.count)

def State.postAlloc (s : State) (p : Pair) : State := s.postWord (allocOffset p) (allocWord (s.pair p).alloc)

/-- A pair's transmit producer and consumer count words posted (R139, R142). -/
def State.postTxCounts (s : State) (p : Pair) : State :=
  (s.postCount (txProducerOffset p) (s.pair p).produced).postCount (txConsumerOffset p) (s.pair p).consumed

/-- A pair's allocation changes: its PUBLISHED cells are given up and its counts posted (R139). -/
def State.reallocate (s : State) (p : Pair) (a : Alloc) : State :=
  if (s.pair p).alloc = a then s
  else
    (s.modPair p fun r =>
      ({ r with alloc := a, produced := r.fill, consumed := r.fill }).bump .givenUp r.publishedCells).postTxCounts p

/-- A target's allocations, base and size are recorded, and every allocation word is posted (R138, R139). -/
def State.installTarget (s : State) (t : AllocTarget) : State :=
  let moved := s.forPairs fun u p => u.reallocate p t.allocs[p.val]
  let recorded := moved.modDist fun d => { d with poolBase := t.poolBase, poolSize := t.poolSize, target := none }
  (recorded.forPairs State.postAlloc).bump .recompute

/-- The Distributor's postings when the Count Block is placed or moved (R142). -/
def State.postTransmitWords (s : State) : State := s.forPairs fun u p => (u.postTxCounts p).postAlloc p

/-! ## Transmit cells (R140, R141, R142) -/

/-- The free cells of a pair: count − (fill − consumer) (R140). -/
def PairRec.freeCells (r : PairRec) : Nat := r.alloc.count - distance r.fill r.consumed

/-- Whether a pair may fill cells: no pending target changes its allocation (R139). -/
def State.mayFill (s : State) (p : Pair) (cells : Nat) : Bool := !s.targetChanges p && cells ≤ (s.pair p).freeCells

/-- The transmit consumer count of a pair is taken (R141). -/
def State.takeTxConsumer (s : State) (p : Pair) (value : Half) : State :=
  if distance value (s.pair p).consumed > (s.pair p).publishedCells then (s.bumpPair p .badTxConsumer).raise .foreignAccess
  else s.modPair p fun r => { r with consumed := value }

/-- A pair starts: its counts are 0, its cells given up, its words posted, and open work of the pair is left behind (R142). -/
def State.transmitStart (s : State) (p : Pair) : State :=
  let t := s.modPair p fun r => ({ r with fill := 0, produced := 0, consumed := 0 }).bump .givenUp r.publishedCells
  let u := t.modDist fun d =>
    { d with copier := d.copier.map fun w => if w.pair = p then { w with detached := true } else w }
  (u.postTxCounts p).postAlloc p

/-! ## Eligibility (R143) -/

/-- A pair is eligible for data while all five conditions hold (R143). -/
def State.eligible (s : State) (p : Pair) : Bool :=
  (s.pair p).state == .active && s.sup.peerMap.getLsbD p.val && s.prof.active.auto p && (s.pair p).alloc.count != 0 &&
    !s.targetChanges p && s.dist.generation.isSome

/-! ## Ends of the Copier's work (R152, R154, R159) -/

/-- The work's cell goes back to FREE and the Copier is free; counts set to 0 meanwhile stay as they are (R142, R152). -/
def State.giveUpCell (s : State) (w : Work) : State :=
  (if w.detached then s else s.modPair w.pair fun r => { r with fill := r.fill - 1 }).modDist fun d => { d with copier := none }

/-- The fragment of abandoned DATA work that is to be re-placed; a released frame keeps none (R152, R155). -/
def Work.leftover (w : Work) (dropping : Bool) : Option Frag :=
  match w.kind with
  | .data f => if dropping then none else some f
  | _ => none

/-- Abandoned work ends (R152, R155, R159). -/
def State.endAbandoned (s : State) (w : Work) : State :=
  let t := (s.giveUpCell w).bumpPair w.pair .abandoned
  match w.leftover s.dist.dropping with
  | some f => t.modDist fun d => { d with toReplace := some f }
  | none => t

/-- Whether a Copier transaction of the work is open. -/
def Phase.isOpen : Phase → Bool
  | .reading => true
  | .writing _ => true
  | _ => false

/-- The Copier's work is abandoned: at once when none of its transactions is open, else when the open one ends (R152). -/
def State.abandonWork (s : State) (w : Work) : State :=
  if w.phase.isOpen then s.modDist fun d => { d with copier := some { w with abandoned := true } }
  else s.endAbandoned w

/-- Whether STATUS is sent in a state (R156, R163). -/
def PairState.sendsStatus : PairState → Bool
  | .down => true
  | .proving => true
  | .active => true
  | _ => false

/-- Whether work keeps its pair (R152, R159). -/
def State.keepsWork (s : State) (w : Work) : Bool :=
  match w.kind with
  | .data _ => s.eligible w.pair
  | .status => (s.pair w.pair).state.sendsStatus
  | .prove => (s.pair w.pair).state == .proving

/-- Eligibility and pair state are tested for the Copier's work (R143, R152, R159). -/
def State.recheckWork (s : State) : State :=
  match s.dist.copier with
  | some w => if w.abandoned || s.keepsWork w then s else s.abandonWork w
  | none => s

/-! ## Releasing a frame (R129, R155, R160) -/

def Work.isData (w : Work) : Bool :=
  match w.kind with
  | .data _ => true
  | _ => false

/-- DATA work in the Copier is abandoned (R155). -/
def State.abandonData (s : State) : State :=
  match s.dist.copier with
  | some w => if w.isData && !w.abandoned then s.abandonWork w else s
  | none => s

/-- The frame being cut is to be released with a status; a frame already being released keeps its first (R129, R155). -/
def State.releaseFrame (s : State) (st : Status) : State :=
  match s.dist.frame with
  | none => s
  | some f =>
    if s.dist.dropping then s
    else
      ((s.modEntry f.number fun e => { e with releaseAs := some st }).modDist fun d =>
        { d with dropping := true, toReplace := none }).abandonData

/-- The frame's entry completes with a status and the Distributor has no frame being cut (R129, R130). -/
def State.closeFrame (s : State) (number : Half) (st : Status) : State :=
  let t := s.modDist fun d => { d with frame := none, dropping := false, toReplace := none }
  match t.subm.queue.find? fun e => e.number == number with
  | some e => t.completeEntry e st
  | none => t

/-- The status a released frame completes with. -/
def State.releaseStatus (s : State) (number : Half) : Status :=
  match s.subm.queue.find? fun e => e.number == number with
  | some e => e.releaseAs.getD .aborted
  | none => .aborted

/-- Whether a released frame can be reported released: no Copier work of it remains (R155). -/
def State.frameReleasable (s : State) : Bool :=
  s.dist.dropping && (match s.dist.copier with
    | some w => !w.isData
    | none => true)

/-- A copy fault: the cell is freed and the frame completes FAULT (R154). -/
def State.copyFault (s : State) (w : Work) : State :=
  let t := (s.giveUpCell w).bump .copyFault
  match s.dist.frame with
  | some f => t.closeFrame f.number .fault
  | none => t

/-- A failed Copier transaction: the end of abandoned work, a copy fault, or a control fault (R152, R154, R159). -/
def State.copierFailed (s : State) (w : Work) : State :=
  if w.abandoned then s.endAbandoned w
  else if w.isData then s.copyFault w
  else (s.giveUpCell w).bumpPair w.pair .controlFault

/-! ## The Fragmenter and the Credit Arbiter (R144, R145, R147) -/

/-- A fragment waiting to be placed: first byte in the frame, remaining length there, numbers given before, length cap. -/
structure Cut where
  first : Nat
  left  : Nat
  given : Nat
  limit : Nat
deriving DecidableEq, Repr

/-- The fragment floor: the smallest multiple of 4 not less than r ÷ (32 − n) (R147). -/
def floorOf (r n : Nat) : Nat := 4 * ((r + 4 * (32 - n) - 1) / (4 * (32 - n)))

/-- A pair meets the floor (R147). -/
def State.meetsFloor (s : State) (c : Cut) (p : Pair) : Bool :=
  floorOf c.left c.given ≤ s.prof.active.maxPayload p || c.left ≤ s.prof.active.maxPayload p

/-- A candidate for a fragment (R145). -/
def State.candidate (s : State) (c : Cut) (p : Pair) : Bool := s.eligible p && s.mayFill p 1 && s.meetsFloor c p

def Image.quantum (a : Image) (p : Pair) : Int := Int.ofNat (a.weight p * 64)
def Image.cap (a : Image) (p : Pair) : Int := Int.ofNat (a.weight p * 128)

/-- A replenish round: every eligible pair's credit gains its quantum, cut to its cap (R144). -/
def State.round (s : State) : State :=
  s.forPairs fun t p =>
    if s.eligible p then
      t.modPair p fun r => { r with credit := min (s.prof.active.cap p) (r.credit + s.prof.active.quantum p) }
    else t

/-- Replenish rounds until a candidate has credit above 0, each counted (R145); sixteen always suffice. -/
def State.replenish (c : Cut) : Nat → State → State
  | 0, s => s
  | n + 1, s =>
    if allPairs.any fun p => s.candidate c p && 0 < (s.pair p).credit then s
    else State.replenish c n (s.round.bump .replenish)

/-- The pairs from one upward, wrapping from 7 to 0. -/
def pairsFrom (p : Pair) : List Pair := allPairs.map fun k => p + k

/-- The pair the Credit Arbiter chooses, once replenished (R145). -/
def State.choose (s : State) (c : Cut) : Option Pair :=
  (pairsFrom s.dist.dataTurn).find? fun p => s.candidate c p && 0 < (s.pair p).credit

/-- The next new fragment of the frame being cut, when it has uncut bytes (R147, R149). -/
def State.newCut (s : State) : Option Cut :=
  match s.dist.frame with
  | some f =>
    if f.bytesCut < f.length ∧ !s.dist.dropping then
      some { first := f.bytesCut, left := f.length - f.bytesCut, given := f.fragmentsCut, limit := f.length - f.bytesCut }
    else none
  | none => none

/-- The fragment to re-place, as it is to be cut (R153). -/
def State.oldCut (s : State) : Option Cut :=
  match s.dist.frame, s.dist.toReplace with
  | some f, some g => some { first := g.first, left := f.length - g.first, given := g.given, limit := g.length }
  | _, _ => none

/-- Whether the Credit Arbiter finds a fragment a pair (R145). -/
def State.placeable (s : State) (c : Cut) : Bool := allPairs.any (s.candidate c)

/-! ## The Copier's choice of work (R149) -/

/-- The first pair, from the control turn, with its STATUS due and a FREE cell (R149). -/
def State.statusPair (s : State) : Option Pair :=
  (pairsFrom s.dist.controlTurn).find? fun p => (s.pair p).statusDue && s.mayFill p 1

/-- Whether a PROVE is due on a pair: PROVING, two FREE cells, and 10 ms since the last (R158). -/
def State.proveDue (s : State) (p : Pair) : Bool :=
  (s.pair p).state == .proving && s.mayFill p 2 &&
    (match (s.pair p).lastProve with
     | some t => reached s.now (t + 10)
     | none => true)

/-- The first pair, from the control turn, on which a PROVE is due (R149). -/
def State.provePair (s : State) : Option Pair := (pairsFrom s.dist.controlTurn).find? s.proveDue

/-- What a free Copier takes next (R149). -/
inductive Choice where
  | status (p : Pair)
  | prove (p : Pair)
  | replace (c : Cut)
  | data (c : Cut)
  | nothing
deriving DecidableEq, Repr

/-- The choice of the Distributor's next work, in the order of R149. -/
def State.nextWork (s : State) : Choice :=
  if s.dist.copier.isSome then .nothing
  else
    match s.statusPair with
    | some p => .status p
    | none =>
      match s.provePair with
      | some p => .prove p
      | none =>
        match s.oldCut with
        | some c => if s.placeable c then .replace c else .nothing
        | none =>
          match s.newCut with
          | some c => if s.placeable c then .data c else .nothing
          | none => .nothing

/-! ## Placements (R148, R153, R157, R158, R195) -/

/-- Whether a fragment placed on a pair is spoilt (R195). -/
def State.spoils (s : State) (p : Pair) : Bool := s.prof.active.injectContinuous p || (s.pair p).injectOnce

/-- The byte address of the transmit cell of the pair's use "fill count" (R138, R140). -/
def State.nextCell (s : State) (p : Pair) : Nat :=
  s.dist.poolBase.getD 0 + 1024 * ((s.pair p).alloc.first + (s.pair p).fill.toNat % (s.pair p).alloc.count)

/-- Work taken by the Copier: the cell of use "fill count" becomes FILLING (R148). -/
def State.takeWork (s : State) (w : Work) : State :=
  (s.modPair w.pair fun r => { r with fill := r.fill + 1 }).modDist fun d => { d with copier := some w }

/-- A fragment's length, S and E on a pair (R147, R153). -/
def cutFor (m : Nat) (c : Cut) (sequence : Half) : Frag :=
  let len := min c.limit m
  { sequence := sequence, first := c.first, length := len, s := c.first == 0, e := len == c.left, given := c.given }

/-- The DATA fragment taken as the Copier's work on a pair: charged, its cell FILLING, its header fixed (R148). -/
def State.takeFragment (s : State) (buffer : Nat) (p : Pair) (f : Frag) : State :=
  let spoilt := s.spoils p
  let header := buildHeader kindData f.s f.e p (s.dist.generation.getD 0) f.sequence (halfOf f.length) 0 spoilt
  let credit := (s.pair p).credit - Int.ofNat f.length
  let work : Work :=
    { kind := .data f, pair := p, cellBase := s.nextCell p, words := header, source := buffer + f.first, done := 0,
      phase := .toRead, abandoned := false, detached := false, spoilt := spoilt }
  ((s.takeWork work).modPair p fun r => { r with credit := credit }).modDist fun d =>
    { d with dataTurn := if 0 < credit then p else p + 1 }

/-- Placement of a new fragment (R148). -/
def State.placeNew (s : State) (c : Cut) : State :=
  let t := State.replenish c 16 s
  match t.choose c, t.dist.frame with
  | some p, some fr =>
    let f := cutFor (t.prof.active.maxPayload p) c t.dist.nextSeq
    let u := t.takeFragment fr.buffer p f
    (u.modDist fun d =>
      { d with nextSeq := d.nextSeq + 1,
               frame := some { fr with bytesCut := fr.bytesCut + f.length, fragmentsCut := fr.fragmentsCut + 1 } }).modEntry
      fr.number fun e => { e with bytesCut := e.bytesCut + f.length, cutting := some s.now }
  | _, _ => t

/-- Re-placement of a fragment, whole or re-cut (R153). -/
def State.placeOld (s : State) (c : Cut) : State :=
  let t := State.replenish c 16 s
  match t.choose c, t.dist.frame, t.dist.toReplace with
  | some p, some fr, some g =>
    let f := cutFor (t.prof.active.maxPayload p) c g.sequence
    let cutOff := g.length - f.length
    let u := (t.takeFragment fr.buffer p f).bump .replaced
    let v := if cutOff = 0 then u else u.bump .recut
    (v.modDist fun d =>
      { d with toReplace := none, frame := some { fr with bytesCut := fr.bytesCut - cutOff } }).modEntry
      fr.number fun e => { e with bytesCut := e.bytesCut - cutOff, cutting := some s.now }
  | _, _, _ => t

/-- The accept map: bit L set when far lane L is related to an ACTIVE pair (R157). -/
def State.acceptMap (s : State) : Byte :=
  allPairs.foldl (fun m p =>
    match (s.pair p).lane with
    | some e => if (s.pair p).state = .active then m ||| (1#8 <<< e.lane.val) else m
    | none => m) 0

/-- The state code of a STATUS payload (R157). -/
def PairState.statusCode : PairState → Byte
  | .down => 1
  | .proving => 2
  | .active => 3
  | _ => 0

/-- The payload of a STATUS placed on a pair (R157, R48). -/
def State.statusPayload (s : State) (p : Pair) : StatusPayload :=
  { state := (s.pair p).state.statusCode, accept := s.acceptMap, valid := s.reseq.synced,
    generation := if s.reseq.synced then s.reseq.generation else 0,
    head := if s.reseq.synced then s.reseq.head else 0 }

/-- Control work taken by the Copier, and the control turn moved on (R149). -/
def State.placeControl (s : State) (kind : WorkKind) (p : Pair) (words : List Word) : State :=
  (s.takeWork
    { kind := kind, pair := p, cellBase := s.nextCell p, words := words, source := 0, done := 0,
      phase := .toWrite (words.take 16), abandoned := false, detached := false, spoilt := s.spoils p }).modDist fun d =>
    { d with controlTurn := p + 1 }

/-- A STATUS is placed on a pair and its due flag cleared (R156, R157). -/
def State.placeStatus (s : State) (p : Pair) : State :=
  let header := buildHeader kindStatus false false p (s.dist.generation.getD 0) 0 16 0 (s.spoils p)
  (s.placeControl .status p (header ++ buildStatus (s.statusPayload p))).modPair p fun r => { r with statusDue := false }

/-- A PROVE is placed on a pair (R158). -/
def State.placeProve (s : State) (p : Pair) : State :=
  let index := (s.pair p).proveIndex
  let header := buildHeader kindProve false false p (s.dist.generation.getD 0) 0 256 index (s.spoils p)
  (s.placeControl .prove p (header ++ buildProve index)).modPair p fun r => { r with lastProve := some s.now }

/-! ## The Copier's transactions (R150) -/

/-- The payload words of the next chunk of a DATA fragment (R150). -/
def chunkWords (source length done : Nat) : Nat :=
  min (min (wordsFor length - done) (if done = 0 then 14 else 16)) ((1024 - (source + 4 * done) % 1024) / 4)

/-- The length of a DATA fragment, 0 for control work. -/
def Work.length (w : Work) : Nat :=
  match w.kind with
  | .data f => f.length
  | _ => 0

/-- The words the work has in all: payload words for DATA, cell words for control. -/
def Work.total (w : Work) : Nat := if w.isData then wordsFor w.length else w.words.length

/-- The address and word count of a DATA fragment's next source read (R150). -/
def Work.nextRead (w : Work) : Nat × Nat := (w.source + 4 * w.done, chunkWords w.source w.length w.done)

/-- The address and words of the next cell write: a DATA fragment's first carries its header (R150, R157, R158). -/
def Work.nextWrite (w : Work) (chunk : List Word) : Nat × List Word :=
  if w.isData then
    if w.done = 0 then (w.cellBase, w.words ++ chunk) else (w.cellBase + 8 + 4 * w.done, chunk)
  else (w.cellBase + 4 * w.done, chunk)

/-- The source read's words are ready to be written, the bytes past the length as zero (R150). -/
def State.copierReadOk (s : State) (w : Work) (data : List Word) : State :=
  if w.abandoned then s.endAbandoned w
  else
    s.modDist fun d =>
      { d with copier := some { w with phase := .toWrite (keepBytesList data (w.length - 4 * w.done)) } }

/-! ## Publication (R151, R158, R159, R196) -/

/-- The cell becomes PUBLISHED and the producer count is posted; a spoilt fragment answers a pending once (R151, R196). -/
def State.publishCell (s : State) (w : Work) : State :=
  let t := (s.modPair w.pair fun r =>
    let u := { r with produced := r.produced + 1 }
    if w.spoilt then ({ u with injectOnce := false }).bump .injected 1 else u).modDist fun d => { d with copier := none }
  t.postCount (txProducerOffset w.pair) (t.pair w.pair).produced

/-- A DATA fragment is published: progress of its frame, and SENT with E (R128, R130, R151). -/
def State.publishData (s : State) (w : Work) (f : Frag) : State :=
  let t := (s.publishCell w).bumpPair w.pair .txData
  match t.dist.frame with
  | some fr =>
    let u := t.modEntry fr.number fun e => { e with published := e.published + 1, cutting := some s.now }
    if f.e then u.closeFrame fr.number .sent else u
  | none => t

/-- A PROVE is published: the index moves on and the proving record counts it (R158, R172). -/
def State.publishProve (s : State) (w : Work) : State :=
  (s.publishCell w).modPair w.pair fun r =>
    let u := ({ r with proveIndex := r.proveIndex + 1 }).bump .txProve 1
    if r.state = .proving then { u with proving := { u.proving with sent := satAdd16 u.proving.sent 1 } } else u

/-- The work's last write has been answered OK (R151, R159). -/
def State.publish (s : State) (w : Work) : State :=
  match w.kind with
  | .data f => if s.eligible w.pair then s.publishData w f else s.endAbandoned w
  | .status => (s.publishCell w).bumpPair w.pair .txStatus
  | .prove => s.publishProve w

/-- A cell write of n words is answered OK: the next chunk follows, or the fragment is published (R150, R151). -/
def State.copierWriteOk (s : State) (w : Work) (n : Nat) : State :=
  let v := { w with done := w.done + n }
  if w.abandoned then s.endAbandoned w
  else if v.done < v.total then
    s.modDist fun d =>
      { d with copier := some { v with phase := if w.isData then .toRead else .toWrite ((w.words.drop v.done).take 16) } }
  else s.publish v

/-! ## The transmit generation (R136) and BOND RESTART (R160) -/

/-- The first STATUS with a payload after FULL RESET determines the transmit generation (R136). -/
def State.setGeneration (s : State) (valid : Bool) (peer : Byte) : State :=
  if s.dist.generation.isSome then s
  else (s.modDist fun d => { d with generation := some (if valid then nextGeneration peer else 1) }).bump .generationSet

/-- The Distributor's part of BOND RESTART but for its recompute: generation, sequence, credits, and the frame released ABORTED
(R133, R160). -/
def State.transmitRestart (s : State) : State :=
  let t := s.modDist fun d => { d with generation := d.generation.map nextGeneration, nextSeq := 0 }
  (t.forPairs fun u p => u.modPair p fun r => { r with credit := 0 }).releaseFrame .aborted

/-! ## Frame selection (R126, R146) -/

/-- A frame is selected: its entry becomes CUTTING with its stall base now, and the Distributor has it (R126, R146). -/
def State.selectFrame (s : State) (e : TxEntry) : State :=
  (s.modEntry e.number fun x => { x with cutting := some s.now }).modDist fun d =>
    { d with frame := some { buffer := e.buffer.toNat, length := e.length, number := e.number, bytesCut := 0,
                             fragmentsCut := 0 } }

/-- A weight change cuts a credit above the new cap to it (R144). -/
def State.capCredits (s : State) : State :=
  s.forPairs fun t p => t.modPair p fun r => { r with credit := min (s.prof.active.cap p) r.credit }

end Sys2Proof.Machine
end

