-- ==== Sys2Proof/Machine/Landing.lean ====
section
/-! DEFINITION. The Landing Unit's collections: Cell Maps, release counts, frees and the Lane Map (R29 to R32, R40, R44). -/

namespace Sys2Proof.Machine

/-! ## The Cell Map (R29) -/

def Cell.isHeld : Cell → Bool
  | .held _ _ => true
  | _ => false

/-- Whether the cell is HELD with a use number (R31). -/
def Cell.heldWith (use : Half) : Cell → Bool
  | .held u _ => u == use
  | _ => false

def PairRec.hasHeld (r : PairRec) : Bool := r.cells.any Cell.isHeld

/-- The cell index of a use number: u mod N (section 2.3). -/
def PairRec.cellOf (r : PairRec) (use : Half) : Nat := use.toNat % r.cells.length

def PairRec.setCell (r : PairRec) (c : Nat) (x : Cell) : PairRec := { r with cells := r.cells.set c x }

/-! ## The release count (R30) -/

/-- How far the release count goes: over the FREE cells in ring order, up to L. -/
def advanceOver (cells : List Cell) : Nat → Half → Half
  | 0, rel => rel
  | n + 1, rel => if cells[rel.toNat % cells.length]? = some .free then advanceOver cells n (rel + 1) else rel

/-- The release count a pair's record allows. -/
def PairRec.releasable (r : PairRec) : Half := advanceOver r.cells (r.landed - r.released).toNat r.released

/-- R advanced as far as it can go, and posted when it has changed (R30). -/
def State.releaseAdvance (s : State) (p : Pair) : State :=
  if (s.pair p).releasable = (s.pair p).released then s
  else (s.modPair p fun r => { r with released := r.releasable }).postCount (releaseOffset p) (s.pair p).releasable

/-! ## Cells becoming FREE (R29, R31, R32) -/

/-- The drained notice of R32, when the pair had a HELD cell and now has none; it is kept for a pair that waits on it
(log entry 25). -/
def State.drainedNotice (s : State) (p : Pair) (had : Bool) : State :=
  if had && !(s.pair p).hasHeld && (s.pair p).state == .out && (s.pair p).reason == .draining then
    s.modPair p fun r => { r with drained := true }
  else s

/-- A cell becomes FREE, and a drained ring is told; R30 is still to be applied (R29, R32). -/
def State.vacate (s : State) (p : Pair) (c : Nat) : State :=
  (s.modPair p fun r => r.setCell c .free).drainedNotice p (s.pair p).hasHeld

/-- A cell becomes FREE, and the release count advances (R30, R32). -/
def State.cellFree (s : State) (p : Pair) (c : Nat) : State := (s.vacate p c).releaseAdvance p

/-- A holder's free of a cell by its use number; it does nothing when the cell is not HELD with it (R31). -/
def State.freeUse (s : State) (p : Pair) (c : Nat) (use : Half) : State :=
  match (s.pair p).cells[c]? with
  | some x => if x.heldWith use then s.cellFree p c else s
  | none => s

/-- The holder of a HELD cell becomes DELIVERY at the hand-off (R32). -/
def State.passCell (s : State) (p : Pair) (c : Nat) (use : Half) : State :=
  match (s.pair p).cells[c]? with
  | some x => if x.heldWith use then s.modPair p fun r => r.setCell c (.held use .delivery) else s
  | none => s

/-! ## The Lane Map (R40) -/

/-- The pair that holds a lane. -/
def State.laneHolder (s : State) (lane : Fin 8) : Option Pair :=
  allPairs.find? fun p => match (s.pair p).lane with
    | some e => e.lane == lane
    | none => false

def PairRec.forgetLearned (r : PairRec) : PairRec :=
  match r.lane with
  | some e => if e.source = .learned then { r with lane := none } else r
  | none => r

/-- A LEARNED entry is lost and a PINNED one kept (R40). -/
def State.forgetLearned (s : State) (p : Pair) : State := s.modPair p PairRec.forgetLearned

/-! ## Ends of landings and the counts' return to 0 (R36, R37, R44) -/

/-- A landing ends without a fragment: L increases by 1 and the cursor returns to IDLE; the cell becomes FREE (R36, R37). -/
def State.endLanding (s : State) (p : Pair) : State :=
  (s.modPair p fun r => { r with landed := r.landed + 1, cursor := .idle }).cellFree p ((s.pair p).cellOf (s.pair p).landed)

/-- A pair goes OUT: its landing ends, counted TORN in HEADER or PAYLOAD, and its Lane Map entry is removed (R44). -/
def State.landingOut (s : State) (p : Pair) : State :=
  let ended :=
    match (s.pair p).cursor with
    | .idle => s
    | .header _ => (s.bumpPair p .torn).endLanding p
    | .payload _ _ _ _ => (s.bumpPair p .torn).endLanding p
    | .absorbing _ => s.endLanding p
  ended.modPair p fun r => { r with lane := none }

/-- A pair moves from OUT to DOWN: L and R are 0, every cell is FREE, the cursor is IDLE and the release count 0 is posted
(R44). -/
def State.landingStart (s : State) (p : Pair) : State :=
  let t := s.modPair p fun r =>
    { r with landed := 0, released := 0, cells := List.replicate r.cells.length .free, cursor := .idle }
  if (t.pair p).cells.isEmpty then t else t.postCount (releaseOffset p) 0

/-- The Cell Map is built for a ring of N cells, all FREE (R29, R45). -/
def State.buildRing (s : State) (p : Pair) (n : Nat) : State :=
  s.modPair p fun r => { r with cells := List.replicate n .free }

end Sys2Proof.Machine
end

