-- ==== Sys2Proof/Machine/Delivery.lean ====
section
/-! DEFINITION. The Delivery Unit (chapter 5): taking and retiring frames, voids, and redirected reads of the Delivery Window. -/

namespace Sys2Proof.Machine

/-! ## Delivery records and counts (R96, R98, R99, R219) -/

def FrameRec.slot (f : FrameRec) : Nat := f.count.toNat % 64

/-- A RELEASED record: retiring with pin count 0 (R95). -/
def FrameRec.released (f : FrameRec) : Bool := f.retiring && f.pins == 0

/-- A PINNED record: retiring with a pin count above 0 (R95). -/
def FrameRec.pinned (f : FrameRec) : Bool := f.retiring && f.pins != 0

/-- The 16-byte image of a frame record (R219). -/
def FrameRec.image (f : FrameRec) : List Word :=
  [wordOfHalves f.count f.firstSeq,
   wordOfHalves (halfOf f.length) (f.generation ++ f.mask),
   wordOfBytes (byteOfNat f.fragments.length) (if f.overwritten then 2 else 1) (if f.note.isSome then 1 else 0) 0,
   match f.note with
   | some (lost, discarded) => wordOfHalves lost discarded
   | none => 0]

/-- A frame's delivery record posted, while the Delivery Ring is placed (R98, R99). -/
def State.postRecord (s : State) (f : FrameRec) : State :=
  if s.prof.active.deliveryRing.isSome then s.post (.deliveryRecord f.slot) f.image else s

/-- The producer count posted to Count Block +4 (R99). -/
def State.postProducer (s : State) : State := s.postCount 4 s.deliv.producer

/-- The producer count posted as part of a placement, with the word at +12 (R99). -/
def State.postDeliveryCounts (s : State) : State := s.postProducer.postWord 12 0

/-- The postings of an application that places or moves the Delivery Ring: every record, oldest first, then the producer count with
the word at +12 (R99). -/
def State.postDeliveryRing (s : State) : State := (s.deliv.queue.foldl State.postRecord s).postDeliveryCounts

/-! ## Taking a frame (R97) -/

/-- The set of pairs that carried the fragments. -/
def pairMask (frags : List FragEntry) : Byte := frags.foldl (fun m e => m ||| (1#8 <<< e.pair.val)) 0

/-- Whether the queue has room: it holds fewer than 64 records (R65, R97). -/
def Delivery.hasRoom (d : Delivery) : Bool := d.queue.length < 64

/-- The sum of the fragments' lengths. -/
def lengthOf (frags : List FragEntry) : Nat := (frags.map FragEntry.length).sum

/-- The record built from an offer (R97). -/
def State.frameOf (s : State) (frags : List FragEntry) : FrameRec :=
  { count := s.deliv.producer, generation := s.reseq.generation, firstSeq := s.reseq.head, length := lengthOf frags,
    mask := pairMask frags, overwritten := false, fragments := frags,
    note := if s.reseq.lostTally = 0 ∧ s.reseq.discardedTally = 0 then none
            else some (s.reseq.lostTally, s.reseq.discardedTally),
    pins := 0, retiring := false }

/-- A frame offered at the head is taken: its record joins the queue, the record and the producer count are posted, FRAME_READY is
raised, and each cell is held by DELIVERY (R32, R97). -/
def State.takeFrame (s : State) (frags : List FragEntry) : State :=
  let f := s.frameOf frags
  let joined := { s with deliv := { s.deliv with queue := s.deliv.queue ++ [f], producer := s.deliv.producer + 1 } }
  let posted := (joined.postRecord f).postProducer
  frags.foldl (fun t e => t.passCell e.pair e.cell e.use) ((posted.raise .frameReady).bump .framesDelivered)

/-! ## Giving frames back (R109 to R111) -/

def State.setQueue (s : State) (q : List FrameRec) : State := { s with deliv := { s.deliv with queue := q } }

/-- One free for each fragment entry that is not void (R110). -/
def State.freeFragments (s : State) (frags : List FragEntry) : State :=
  frags.foldl (fun t e => if e.isVoid then t else t.freeUse e.pair e.cell e.use) s

/-- RELEASED records leave from the old end, and one room notice is sent when a record has left (R111). -/
def State.leaveQueue (s : State) : State :=
  let rest := s.deliv.queue.dropWhile FrameRec.released
  let gone := s.deliv.queue.length - rest.length
  if gone = 0 then s
  else { s with deliv := { s.deliv with queue := rest, oldest := s.deliv.oldest + halfOf gone,
                                        roomNotices := s.deliv.roomNotices + 1 } }

/-- The a frames from the consumer count on are retired, oldest first (R110). -/
def State.retire (s : State) (a : Nat) : State :=
  let c := s.deliv.consumer
  let named := s.deliv.queue.filter fun f => distance f.count c < a
  let marked := s.setQueue (s.deliv.queue.map fun f => if distance f.count c < a then { f with retiring := true } else f)
  let freed := named.foldl (fun t f => if f.pins = 0 then t.freeFragments f.fragments else t) marked
  freed.bump .framesRetired a

/-- The delivery consumer count is taken (R109). -/
def State.takeConsumer (s : State) (value : Half) : State :=
  let a := distance value s.deliv.consumer
  if a > distance s.deliv.producer s.deliv.consumer then (s.bump .badConsumer).raise .foreignAccess
  else if a = 0 then s
  else
    let t := s.retire a
    State.leaveQueue { t with deliv := { t.deliv with consumer := value } }

/-! ## Voids (R112, R113) -/

def FragEntry.names (e : FragEntry) (p : Pair) (c : Nat) (use : Half) : Bool :=
  e.pair == p && e.cell == c && e.use == use && !e.isVoid

/-- A record that still holds its cells, LIVE or PINNED, with the named fragment not void (R112, R113). -/
def FrameRec.holds (f : FrameRec) (p : Pair) (c : Nat) (use : Half) : Bool :=
  !f.released && f.fragments.any fun e => e.names p c use

def FrameRec.voided (f : FrameRec) (p : Pair) (c : Nat) (use : Half) : FrameRec :=
  { f with overwritten := true,
           fragments := f.fragments.map fun e => if e.names p c use then { e with isVoid := true } else e }

/-- A void notice for a DELIVERY-held cell (R112). -/
def State.deliveryVoid (s : State) (p : Pair) (c : Nat) (use : Half) : State :=
  match s.deliv.queue.find? fun f => f.holds p c use with
  | none => s
  | some f =>
    let g := f.voided p c use
    let t := ((s.setQueue (s.deliv.queue.map fun x => if x.count = f.count then g else x)).postRecord g).raise .frameOverwritten
    if f.overwritten then t else t.bump .overwrittenFrame

/-! ## Redirected reads (R100 to R104) -/

/-- The entries of a fragment list with their first slot bytes (R102). -/
def entriesFrom (start : Nat) : List FragEntry → List (Nat × FragEntry)
  | [] => []
  | e :: es => (start, e) :: entriesFrom (start + e.length) es

/-- The entries a range of slot bytes touches. -/
def FrameRec.touched (f : FrameRec) (lo hi : Nat) : List (Nat × FragEntry) :=
  (entriesFrom 0 f.fragments).filter fun x => x.1 < hi && lo < x.1 + x.2.length

/-- The piece of a read in one entry: a run of whole words of the entry's cell. The ring base is the active profile's, which a pair
with a HELD cell always has (R102). -/
def State.pieceOf (s : State) (lo hi : Nat) (x : Nat × FragEntry) : Piece :=
  let first := max lo x.1
  { addr := wordOf ((s.prof.active.ringBase x.2.pair).getD 0 + 1024 * x.2.cell + 8 + (first - x.1))
    count := wordsFor (min hi (x.1 + x.2.length) - first)
    stage := .later }

/-- The first piece joins the pass-through requests at acceptance (R105). -/
def startPieces : List Piece → List Piece
  | [] => []
  | p :: ps => { p with stage := .waiting } :: ps

/-- What becomes of a read handed to the Delivery Unit (R100 to R104). -/
inductive WindowRead where
  | noFrame
  | zero
  | void
  | accept (r : Redirect)
deriving DecidableEq, Repr

/-- The record of a slot (R100). -/
def State.slotFrame (s : State) (slot : Nat) : Option FrameRec := s.deliv.queue.find? fun f => f.slot == slot

/-- The tests of a Delivery Window read by its window offset and word count, in order (section 5.3). -/
def State.windowRead (s : State) (offset words : Nat) : WindowRead :=
  match s.slotFrame (offset / 4096) with
  | none => .noFrame
  | some f =>
    let lo := offset % 4096
    let hi := lo + 4 * words
    if f.retiring then .noFrame
    else if f.length ≤ lo then .zero
    else if (f.touched lo hi).any fun x => x.2.isVoid then .void
    else .accept { frame := f.count, start := lo, length := f.length,
                   pieces := startPieces ((f.touched lo hi).map (s.pieceOf lo hi)), faulted := false }

/-- The pin count of a frame changed. -/
def State.modFrame (s : State) (count : Half) (g : FrameRec → FrameRec) : State :=
  s.setQueue (s.deliv.queue.map fun f => if f.count = count then g f else f)

def State.frame (s : State) (count : Half) : Option FrameRec := s.deliv.queue.find? fun f => f.count == count

/-! ## The end of a redirected read (R106 to R108) -/

/-- The data of an answered read: the pieces' words in slot order, with the zero region of R103. -/
def Redirect.data (r : Redirect) (count : Nat) : List Word :=
  let words := r.pieces.flatMap fun p => match p.stage with
    | .ended ws => ws
    | _ => []
  keepBytesList (words ++ List.replicate (count - words.length) 0) (r.length - r.start)

/-- Whether every piece has ended or been withdrawn. -/
def Redirect.complete (r : Redirect) : Bool :=
  r.pieces.all fun p => match p.stage with
    | .ended _ => true
    | .failed => true
    | .withdrawn => true
    | _ => false

/-- Whether an entry the read covers has become void since acceptance (R108). -/
def State.spoilt (s : State) (r : Redirect) (count : Nat) : Bool :=
  match s.frame r.frame with
  | some f => (f.touched r.start (r.start + 4 * count)).any fun x => x.2.isVoid
  | none => false

/-- A read's pin is dropped; a retiring frame at pin 0 has its cells freed and may leave (R106, R110, R111). -/
def State.dropPin (s : State) (count : Half) : State :=
  let t := s.modFrame count fun f => { f with pins := f.pins - 1 }
  match t.frame count with
  | some f => if f.released then (t.freeFragments f.fragments).leaveQueue else t
  | none => t

/-- A redirected read whose pieces have all ended is answered (R106 to R108). -/
def State.answerRedirect (s : State) (t : UpTx) (r : Redirect) : State :=
  if s.spoilt r t.count then
    (((s.closeUp (errorResponse t.label t.tag)).bump .voidRead).raise .strayRead).dropPin r.frame
  else if r.faulted then (s.closeUp (errorResponse t.label t.tag)).dropPin r.frame
  else (s.closeUp (okResponse t.label t.tag (r.data t.count))).dropPin r.frame

/-- The first (false) or second (true) piece moved to another stage. -/
def setPiece (ps : List Piece) (second : Bool) (st : PieceStage) : List Piece :=
  match ps with
  | [] => []
  | p :: rest =>
    if second then
      match rest with
      | [] => [p]
      | q :: more => p :: { q with stage := st } :: more
    else { p with stage := st } :: rest

/-- A second piece not yet granted is withdrawn (R107). -/
def withdrawPieces (ps : List Piece) : List Piece :=
  ps.map fun p => match p.stage with
    | .later => { p with stage := .withdrawn }
    | .waiting => { p with stage := .withdrawn }
    | _ => p

/-- The second piece joins the pass-through requests once the first has been granted (R105). -/
def joinSecond (ps : List Piece) : List Piece :=
  ps.map fun p => if p.stage = .later then { p with stage := .waiting } else p

/-- A piece of a redirected read has ended, with its words or with a failure (R106, R107). -/
def State.pieceEnded (s : State) (label : Label) (second : Bool) (words : Option (List Word)) : State :=
  match s.upTx label with
  | none => s
  | some t =>
    match t.stage with
    | .redirected r =>
      let r' : Redirect :=
        match words with
        | some ws => { r with pieces := setPiece r.pieces second (.ended ws) }
        | none => { r with pieces := withdrawPieces (setPiece r.pieces second .failed), faulted := true }
      let u := (if r'.faulted && !r.faulted then s.bump .readFault else s).setStage label (.redirected r')
      if r'.complete then u.answerRedirect t r' else u
    | _ => s

end Sys2Proof.Machine
end

