-- ==== Sys2Proof/Machine/Resequencer.lean ====
section
/-! DEFINITION. The Resequencer: window, admission, horizons, head processing, restarts (chapter 3) and gap resolution
(chapter 4). -/

namespace Sys2Proof.Machine

/-! ## The window (R46, R47) -/

/-- A window from its positions, EMPTY beyond the list. -/
def windowOf (ps : List Pos) : Vector Pos 512 :=
  ⟨⟨(ps ++ List.replicate 512 Pos.empty).take 512⟩, by
    simp only [List.size_toArray, List.length_take, List.length_append, List.length_replicate]
    omega⟩

def State.positions (s : State) : List Pos := s.reseq.window.toList

def State.setWindow (s : State) (ps : List Pos) : State := { s with reseq := { s.reseq with window := windowOf ps } }

/-- A horizon after the head has moved from h to h + n: one the head passed trails at the new head minus 1 (R47, R56). -/
def trail (h : Half) (n : Nat) (x : Half) : Half := if distance x (h - 1) ≤ n then h + halfOf n - 1 else x

/-- The head moves forward by n: n positions leave, n EMPTY ones join, and horizons passed trail (R47). -/
def State.moveHead (s : State) (n : Nat) : State :=
  let h := s.reseq.head
  let moved : State := { s with reseq := { s.reseq with head := h + halfOf n, window := windowOf (s.positions.drop n) } }
  moved.forPairs fun t p => t.modPair p fun r => { r with horizon := r.horizon.map (trail h n) }

/-! ## Aim of the skew timer (R75) -/

/-- The LANDED position nearest in a list of positions, numbered from k. -/
def nextLanded : List Pos → Nat → Option (Nat × Landed)
  | [], _ => none
  | .landed r :: _, k => some (k, r)
  | _ :: ps, k => nextLanded ps (k + 1)

/-- The first gap and its reference (R75). -/
def firstGap : List Pos → Nat → Option (Nat × Nat × Landed)
  | [], _ => none
  | .empty :: ps, k => (nextLanded ps (k + 1)).map fun x => (k, x)
  | _ :: ps, k => firstGap ps (k + 1)

/-- The timer as the window aims it: ARMED at the first gap, STOPPED without one (R75). -/
def State.aimed (s : State) : Option Skew :=
  (firstGap s.positions 0).map fun x =>
    { gap := s.reseq.head + halfOf x.1, reference := s.reseq.head + halfOf x.2.1, refTime := x.2.2.time,
      deadline := x.2.2.time + s.prof.active.skewLimit }

def State.aim (s : State) : State := { s with reseq := { s.reseq with skew := s.aimed } }

/-! ## Passing the head (R49, R60, R61, R63, R64, R65) -/

/-- n LOST heads are passed as lost sequences (R49, R60). -/
def State.passLost (s : State) (n : Nat) : State :=
  let t := s.bump .lostSequence n
  State.moveHead { t with reseq := { t.reseq with lostTally := satAdd16 t.reseq.lostTally n } } n

/-- A LANDED head without S is freed and passed (R61). -/
def State.passOrphan (s : State) (r : Landed) : State := ((s.freeUse r.pair r.cell r.use).bump .orphan).moveHead 1

/-- The head fragment of a discarded frame is freed, the tally and the outcome counted, and the head moves on (R63, R87). -/
def State.discardHead (s : State) (r : Landed) (c : GCounter) : State :=
  let t := (s.freeUse r.pair r.cell r.use).bump c
  State.moveHead { t with reseq := { t.reseq with discardedTally := satAdd16 t.reseq.discardedTally 1 } } 1

/-- The fragment list of an offer: one entry per position (R64). -/
def fragmentsOf : List Pos → List FragEntry
  | [] => []
  | .landed r :: ps => { pair := r.pair, cell := r.cell, use := r.use, length := r.length, isVoid := false } :: fragmentsOf ps
  | _ :: ps => fragmentsOf ps

/-- A complete frame of n positions at the head is taken by the Delivery Unit (R64). -/
def State.handOff (s : State) (n : Nat) : State :=
  let t := (s.takeFrame (fragmentsOf (s.positions.take n))).bump .framesAssembled
  State.moveHead { t with reseq := { t.reseq with lostTally := 0, discardedTally := 0 } } n

/-- The Delivery Queue refuses: the blocked flag is set (R65). -/
def State.block (s : State) : State :=
  let t := s.bump .blocked
  { t with reseq := { t.reseq with blocked := true } }

/-! ## The frame scan (R62) -/

inductive Scan where
  /-- An EMPTY position, or the end of the positions looked at. -/
  | wait
  | malformed
  | loss
  | oversize
  | complete (positions : Nat)
deriving DecidableEq, Repr

/-- A length that a fragment other than the last may have (R62). -/
def goodLength (n : Nat) : Bool := n % 4 == 0 && 64 ≤ n

/-- The scan beyond the head, with the fragment and byte counts so far; the tests in the order of R62. -/
def scanOn : List Pos → Nat → Nat → Scan
  | [], _, _ => .wait
  | .empty :: _, _, _ => .wait
  | .lost :: _, _, _ => .loss
  | .landed r :: ps, n, b =>
    if r.s then .malformed
    else if n + 1 > 32 then .oversize
    else if b + r.length > 4096 then .oversize
    else if r.e then .complete (n + 1)
    else if goodLength r.length then scanOn ps (n + 1) (b + r.length)
    else .malformed

/-- The scan from a LANDED head with S (R62). -/
def scanFrom (r : Landed) (rest : List Pos) : Scan :=
  if r.e then .complete 1
  else if goodLength r.length then scanOn rest 1 r.length
  else .malformed

/-! ## Head processing (R59) -/

/-- Head processing, one head at a time; each advance empties one position, so 513 looks always reach a stop. -/
def State.headRun : Nat → State → State
  | 0, s => s
  | fuel + 1, s =>
    match s.positions with
    | .lost :: _ => State.headRun fuel (s.passLost 1)
    | .landed r :: rest =>
      if r.s then
        match scanFrom r rest with
        | .wait => s
        | .malformed => State.headRun fuel (s.discardHead r .malformed)
        | .loss => State.headRun fuel (s.discardHead r .loss)
        | .oversize => State.headRun fuel (s.discardHead r .oversize)
        | .complete n => if s.deliv.hasRoom then State.headRun fuel (s.handOff n) else s.block
      else State.headRun fuel (s.passOrphan r)
    | _ => s

/-- One run of head processing; the blocked flag is cleared at its start (R59, R65). -/
def State.headProcess (s : State) : State :=
  State.headRun 513 { s with reseq := { s.reseq with blocked := false } }

/-- A run of head processing that ends its event: the timer is aimed anew (R59, R75). -/
def State.settle (s : State) : State := s.headProcess.aim

/-! ## Declarations (R74) and closure (R80 to R82) -/

/-- Every EMPTY position before position n becomes LOST. -/
def declareBelow : Nat → List Pos → List Pos
  | 0, ps => ps
  | _ + 1, [] => []
  | n + 1, .empty :: ps => .lost :: declareBelow n ps
  | n + 1, p :: ps => p :: declareBelow n ps

/-- The number of EMPTY positions before position n. -/
def emptyBelow (n : Nat) (ps : List Pos) : Nat := (ps.take n).countP fun p => p == .empty

def State.declare (s : State) (n : Nat) : State := s.setWindow (declareBelow n s.positions)

/-- A horizon's distance from H − 1 (R80). -/
def State.horizonPlace (s : State) (h : Half) : Nat := distance h (s.reseq.head - 1)

/-- The lowest horizon of the ACTIVE pairs by its distance from H − 1; absent while closure does not apply (R80). -/
def State.closurePoint (s : State) : Option Nat :=
  let active := (allPairs.map s.pair).filter fun r => r.state == .active
  if active.isEmpty || active.any (fun r => r.horizon.isNone) then none
  else some ((active.filterMap PairRec.horizon).foldl (fun m h => min m (s.horizonPlace h)) 65536)

/-- The number of positions closure would declare (R80). -/
def State.closable (s : State) : Nat :=
  match s.closurePoint with
  | some d => emptyBelow (d - 1) s.positions
  | none => 0

/-- Closure: every closable position is declared LOST (R81). -/
def State.close (s : State) : State :=
  match s.closurePoint with
  | some d =>
    let n := emptyBelow (d - 1) s.positions
    if n = 0 then s else ((s.declare (d - 1)).bump .closureLost n).raise .gapLoss
  | none => s

/-- A pair has left ACTIVE: its horizon is removed and closure is checked against the pairs that remain (R57, R82; log
entry 21). -/
def State.closeOnDeparture (s : State) (p : Pair) : State :=
  let t := s.modPair p fun r => { r with horizon := none }
  if t.closable = 0 then t else t.close.settle

/-- The skew timer's expiry: every EMPTY position before the reference is declared LOST (R77). -/
def State.skewExpire (s : State) (k : Skew) : State :=
  let n := distance k.reference s.reseq.head
  ((((s.declare n).bump .skewExpiry).bump .skewLost (emptyBelow n s.positions)).raise .gapLoss).settle

/-! ## Window clear and restarts (R67 to R69) -/

/-- A LANDED position's cell is freed by a clear (R67). -/
def State.clearPosition (s : State) : Pos → State
  | .landed r => (s.freeUse r.pair r.cell r.use).bump .restartCleared
  | _ => s

/-- The window clear (R67). -/
def State.windowClear (s : State) : State :=
  let t := s.positions.foldl State.clearPosition s
  let u : State := { t with reseq := { t.reseq with window := windowOf [], blocked := false, skew := none } }
  u.forPairs fun v p => v.modPair p fun r => { r with horizon := none }

/-- The clear to the unsynchronized state that BOND RESTART makes (R69). -/
def State.bondClear (s : State) : State :=
  let t := s.windowClear
  { t with reseq := { t.reseq with synced := false, generation := 0, head := 0 } }

/-- RECEIVE RESTART to generation g (R68). -/
def State.receiveRestart (s : State) (g : Byte) : State :=
  let t := s.windowClear.bump .receiveRestart
  { t with reseq := { t.reseq with generation := g, head := 0 } }

/-! ## Voids in the window (R58) -/

def Pos.names (p : Pair) (c : Nat) (use : Half) : Pos → Bool
  | .landed r => r.pair == p && r.cell == c && r.use == use
  | _ => false

/-- A void notice for a WINDOW-held cell: the LANDED position turns LOST and head processing runs (R58, R59). -/
def State.windowVoid (s : State) (p : Pair) (c : Nat) (use : Half) : State :=
  if s.positions.any (Pos.names p c use) then
    (s.setWindow (s.positions.map fun x => if x.names p c use then .lost else x)).settle
  else s

/-! ## Admission of DATA (R50 to R56) -/

/-- A landed DATA record as the Landing Unit hands it over (R42). -/
structure DataRecord where
  pair       : Pair
  cell       : Nat
  use        : Half
  generation : Byte
  sequence   : Half
  length     : Nat
  s          : Bool
  e          : Bool
  time       : Time
deriving DecidableEq, Repr

/-- A dropped fragment: counted for the pair, its cell FREE (R55). -/
def State.dropData (s : State) (a : DataRecord) (c : PCounter) : State := (s.bumpPair a.pair c).cellFree a.pair a.cell

/-- The horizon of the pair after an admission, and whether it moved (R56). -/
def State.horizonAfter (s : State) (p : Pair) (seq : Half) : Option Half :=
  match (s.pair p).horizon with
  | none => some seq
  | some h => if s.horizonPlace seq > s.horizonPlace h then some seq else some h

/-- Whether the fragment lies behind the pair's horizon (R56). -/
def State.slips (s : State) (p : Pair) (seq : Half) : Bool :=
  match (s.pair p).horizon with
  | none => false
  | some h => s.horizonPlace seq < s.horizonPlace h

/-- The position LANDED, the cell HELD by WINDOW, ADMITTED counted and the horizon updated (R53, R56). -/
def State.landAt (s : State) (a : DataRecord) (d : Nat) : State :=
  let rec' : Landed := { pair := a.pair, cell := a.cell, use := a.use, length := a.length, s := a.s, e := a.e, time := a.time }
  let horizon := s.horizonAfter a.pair a.sequence
  let slip := s.slips a.pair a.sequence
  (s.setWindow (s.positions.set d (.landed rec'))).modPair a.pair fun r =>
    let t := ({ (r.setCell a.cell (.held a.use .window)) with horizon := horizon }).bump .admitted 1
    if slip then t.bump .orderSlip 1 else t

/-- A fragment admitted at distance d: closure is checked when a horizon moved, then head processing runs and the timer is aimed
(R53, R56, R81, R59, R75). -/
def State.enterWindow (s : State) (a : DataRecord) (d : Nat) : State :=
  let t := s.landAt a d
  (if (t.pair a.pair).horizon = (s.pair a.pair).horizon then t else t.close).settle

/-! ## Forced advance (R84 to R88) -/

/-- The run of LOST positions at the front of a list. -/
def leadingLost : List Pos → Nat
  | .lost :: ps => leadingLost ps + 1
  | _ => 0

/-- The walk of the head over the m sequence numbers before H′. Positions that join the window before H′ were never in it and are
taken as declared (R86, R87). -/
def State.forcedWalk : Nat → Nat → State → State
  | 0, _, s => s
  | _, 0, s => s
  | fuel + 1, m + 1, s =>
    let t := s.declare (m + 1)
    match t.positions.take (m + 1) with
    | .landed r :: rest =>
      if r.s then
        match scanFrom r rest with
        | .wait => State.forcedWalk fuel m (t.discardHead r .forced)
        | .malformed => State.forcedWalk fuel m (t.discardHead r .malformed)
        | .loss => State.forcedWalk fuel m (t.discardHead r .loss)
        | .oversize => State.forcedWalk fuel m (t.discardHead r .oversize)
        | .complete k =>
          if t.deliv.hasRoom then State.forcedWalk fuel (m + 1 - k) (t.handOff k)
          else State.forcedWalk fuel m (t.discardHead r .forced)
      else State.forcedWalk fuel m (t.passOrphan r)
    | ps => State.forcedWalk fuel (m + 1 - leadingLost ps) (t.passLost (leadingLost ps))

/-- A forced advance by a fragment at distance d (R84, R86, R87, R88). -/
def State.forcedAdvance (s : State) (a : DataRecord) (d : Nat) : State :=
  let n := d - 511
  let declared := emptyBelow n s.positions + (n - 512)
  let walked := State.forcedWalk n n (s.bump .forcedLost declared)
  ((walked.enterWindow a 511).bump .forcedAdvance).raise .windowForced

/-- The distance test (R53, R54, R84). -/
def State.placeData (s : State) (a : DataRecord) : State :=
  let d := distance a.sequence s.reseq.head
  if d < 512 then
    match s.positions.getD d .lost with
    | .empty => s.enterWindow a d
    | .landed _ => s.dropData a .duplicate
    | .lost => s.dropData a .late
  else if d < 32768 then
    if s.reseq.blocked then s.dropData a .windowFull else s.forcedAdvance a d
  else s.dropData a .stale

/-- Admission of a landed DATA record (R50, R51, R52). -/
def State.admitData (s : State) (a : DataRecord) : State :=
  if (s.pair a.pair).state ≠ .active then s.dropData a .offState
  else if s.reseq.synced then
    if newer a.generation s.reseq.generation then (s.receiveRestart a.generation).placeData a
    else if a.generation = s.reseq.generation then s.placeData a
    else s.dropData a .staleGeneration
  else
    State.placeData { s with reseq := { s.reseq with synced := true, generation := a.generation, head := a.sequence } } a

end Sys2Proof.Machine
end

