-- ==== Sys2Proof/Machine/Supervisor.lean ====
section
/-! DEFINITION. The Pair Supervisor (chapter 8) and the Surge Monitor (R189 to R193). -/

namespace Sys2Proof.Machine

/-! ## A change of state (R156, R165) -/

/-- Status timer and STATUS due flag over a change of state (R156). -/
def PairRec.statusOver (r : PairRec) (old new : PairState) (deadline : Time) : PairRec :=
  if new.sendsStatus && !old.sendsStatus then { r with statusDue := true, statusTimer := some deadline }
  else if !new.sendsStatus && old.sendsStatus then { r with statusDue := false, statusTimer := none }
  else r

/-- A pair's state changes, with PAIR_CHANGE, STATE_CHANGE and the effects of R165 that every change has. -/
def State.changeState (s : State) (p : Pair) (new : PairState) (reason : Reason) : State :=
  let old := (s.pair p).state
  if old = new then s.modPair p fun r => { r with reason := reason }
  else
    let changed := (s.modPair p fun r =>
      (({ r with state := new, reason := reason }).statusOver old new (s.now + s.prof.active.statusInterval)).bump
        .stateChange 1).raise .pairChange
    let left :=
      if old = .active then (changed.modPair p fun r => { r with credit := 0 }).closeOnDeparture p else changed
    left.recheckWork

/-! ## Entries into the states -/

/-- Entry into DOWN with its cause; failed tells an entry from PROVING with outcome FAIL (R168). -/
def State.enterDown (s : State) (p : Pair) (cause : Reason) (failed : Bool) : State :=
  let old := (s.pair p).state
  let reason := if (s.pair p).alloc.count = 0 then .noCells else cause
  let t := (s.changeState p .down reason).modPair p fun r =>
    { r with silence := none, entered := none,
             deadline := if failed then some (s.now + s.prof.active.retryHoldoff) else none }
  if failed || old == .lost || old == .quarantine || old == .held then t.forgetLearned p else t

/-- Entry into PROVING (R171). -/
def State.enterProving (s : State) (p : Pair) : State :=
  (s.changeState p .proving .none).modPair p fun r =>
    { r with proving := { sent := 0, received := 0, errored := 0, outcome := .none },
             deadline := some (s.now + s.prof.active.provingPeriod), silence := some (s.now + s.prof.active.silenceLimit),
             recentErrors := 0, proveIndex := 0, lastProve := none }

def PairRec.withOutcome (r : PairRec) (o : ProvingOutcome) : PairRec := { r with proving := { r.proving with outcome := o } }

/-- Entry into ACTIVE (R173, R176). -/
def State.enterActive (s : State) (p : Pair) : State :=
  (s.changeState p .active .none).modPair p fun r =>
    ({ (r.withOutcome .pass) with entered := some s.now, deadline := none }).bump .activations 1

/-- PROVING ends with outcome FAIL (R173, R174, R175). -/
def State.failProving (s : State) (p : Pair) (cause : Reason) : State :=
  (s.modPair p fun r => r.withOutcome .fail).enterDown p cause true

/-- The flap history with a loss at its young end, at most 4 times (R177). -/
def pushFlap (flaps : List Time) (t : Time) : List Time :=
  (if flaps.length ≥ 4 then flaps.drop 1 else flaps) ++ [t]

/-- Whether a flap history is full within the flap window (R177). -/
def flapsFull (flaps : List Time) (window : Nat) : Bool :=
  match flaps with
  | [a, _, _, d] => (d - a).toNat ≤ window
  | _ => false

/-- The penalty of a quarantine: the base times 2 to the power of the factor (R179). -/
def penalty (base factor : Nat) : Time := wordOf (base * 2 ^ factor)

/-- An ACTIVE pair is lost: to QUARANTINE when its flap history is full within the flap window, else to LOST (R177, R179). -/
def State.lose (s : State) (p : Pair) : State :=
  let flaps := pushFlap (s.pair p).flaps s.now
  if flapsFull flaps s.prof.active.flapWindow then
    (((s.bumpPair p .pairLoss).changeState p .quarantine .none).modPair p fun r =>
      ({ r with silence := none, entered := none, flaps := [], factor := min 4 (r.factor + 1),
                deadline := some (s.now + penalty s.prof.active.quarantineBase r.factor) }).bump .quarantineEntry 1).raise
      .pairQuarantine
  else
    ((s.bumpPair p .pairLoss).changeState p .lost .none).modPair p fun r =>
      { r with silence := none, entered := none, flaps := flaps, deadline := some (s.now + s.prof.active.lossHoldoff) }

/-- Entry into HELD (R180). -/
def State.hold (s : State) (p : Pair) : State :=
  (s.changeState p .held .none).modPair p fun r => { r with silence := none, deadline := none, entered := none }

/-- A profile application disables a pair (R166). -/
def State.disable (s : State) (p : Pair) : State :=
  if (s.pair p).state = .out then s.modPair p fun r => { r with reason := .none, drained := false }
  else
    ((s.changeState p .out .none).modPair p fun r =>
      { r with silence := none, deadline := none, entered := none, recentErrors := 0, peerState := 0 }).landingOut p

/-- The start of a pair: the counts return to 0 and it enters DOWN, or HELD under the stop (R167). -/
def State.startPair (s : State) (p : Pair) : State :=
  let t := ((s.modPair p fun r => { r with drained := false }).landingStart p).transmitStart p
  if t.sup.stopView then t.hold p else t.enterDown p .none false

/-- A profile application enables a pair that is OUT: it starts, or waits DRAINING for its HELD cells (R167). -/
def State.enable (s : State) (p : Pair) : State :=
  if (s.pair p).state = .out ∧ (s.pair p).reason ≠ .draining then
    if (s.pair p).hasHeld then s.modPair p fun r => { r with reason := .draining } else s.startPair p
  else s

/-! ## Arrivals and notices (R169, R172, R174, R175, R181, R183) -/

/-- A lane-right arrival on a pair (R169, R174). -/
def State.arrive (s : State) (p : Pair) : State :=
  match (s.pair p).state with
  | .proving => s.modPair p fun r => { r with silence := some (s.now + s.prof.active.silenceLimit) }
  | .active => s.modPair p fun r => { r with silence := some (s.now + s.prof.active.silenceLimit) }
  | .down =>
    if (s.pair p).alloc.count = 0 then s.modPair p fun r => { r with reason := .noCells }
    else if (s.pair p).deadline.isNone || s.due (s.pair p).deadline then s.enterProving p
    else s
  | _ => s

/-- A lane-right PROVE: counted in the record of a pair that was PROVING when it landed (R172; log entry 23). -/
def State.takeProve (s : State) (p : Pair) (matched : Bool) : State :=
  let t := s.arrive p
  if (s.pair p).state = .proving then
    t.modPair p fun r =>
      { r with proving := { r.proving with received := satAdd16 r.proving.received 1,
                                           errored := if matched then r.proving.errored
                                                      else satAdd16 r.proving.errored 1 } }
  else t

/-- A STATUS payload is taken, in any state but OUT (R183). -/
def State.takePayload (s : State) (p : Pair) (x : StatusPayload) : State :=
  let kept := s.modPair p fun r => { r with peerState := x.state }
  let counted := if 1 ≤ x.state.toNat ∧ x.state.toNat ≤ 3 then kept else kept.bumpPair p .badPeerState
  let viewed : State := { counted with sup := { counted.sup with peerMap := x.accept, peerValid := x.valid,
                                                                 peerGeneration := x.generation, peerHead := x.head } }
  (viewed.setGeneration x.valid x.generation).recheckWork

/-- A lane-right STATUS, with its payload when its length is 16 (R26, R183). -/
def State.takeStatus (s : State) (p : Pair) (x : Option StatusPayload) : State :=
  match x with
  | some y => (s.arrive p).takePayload p y
  | none => (s.bumpPair p .badStatus).arrive p

/-- A header-error notice: counted, and an error burst at the limit on a PROVING or ACTIVE pair (R175). -/
def State.headerErrorNotice (s : State) (p : Pair) : State :=
  let t := s.modPair p fun r => { r with recentErrors := min 255 (r.recentErrors + 1) }
  if (t.pair p).recentErrors ≥ s.prof.active.errorBurstLimit then
    match (t.pair p).state with
    | .proving => (t.bumpPair p .errorBurst).failProving p .silent
    | .active => (t.bumpPair p .errorBurst).lose p
    | _ => t
  else t

/-- A conflict notice on a DOWN pair (R181). -/
def State.conflictNotice (s : State) (p : Pair) : State :=
  if (s.pair p).state = .down then (s.modPair p fun r => { r with reason := .laneConflict }).raise .laneConflict else s

/-! ## Recomputes (R139, R170) -/

/-- A pair's state checked against its new allocation count (R170). -/
def State.checkCells (s : State) (p : Pair) : State :=
  let r := s.pair p
  if r.alloc.count = 0 then
    match r.state with
    | .proving => s.enterDown p .noCells false
    | .active => s.enterDown p .noCells false
    | .down => s.modPair p fun r => { r with reason := .noCells }
    | _ => s
  else if r.state = .down ∧ r.reason = .noCells then s.modPair p fun r => { r with reason := .none }
  else s

/-- A target is taken into use (R138, R139, R170). -/
def State.takeTarget (s : State) (t : AllocTarget) : State :=
  ((s.installTarget t).forPairs State.checkCells).recheckWork

/-- A recompute: its target is taken into use at once when the test passes, else it is pending (R138, R139). -/
def State.recompute (s : State) : State :=
  let t := s.modDist fun d => { d with target := some s.prof.active.target }
  if t.targetReady then t.takeTarget s.prof.active.target else t.recheckWork

/-! ## Lanes (R40, R182) -/

/-- A PINNED entry whose pin a profile removes or changes is removed (R40). -/
def State.dropStalePin (s : State) (p : Pair) : State :=
  match (s.pair p).lane with
  | some e =>
    if e.source = .pinned ∧ s.prof.active.pin p ≠ some e.lane then s.modPair p fun r => { r with lane := none } else s
  | none => s

/-- A LEARNED entry for a lane is removed (R40). -/
def PairRec.dropLearned (r : PairRec) (lane : Fin 8) : PairRec :=
  match r.lane with
  | some e => if e.source = .learned ∧ e.lane = lane then { r with lane := none } else r
  | none => r

/-- An enabled pair's pin is entered (R40). -/
def State.enterPin (s : State) (p : Pair) : State :=
  match s.prof.active.pin p with
  | some lane =>
    if s.prof.active.enabled p then
      (s.forPairs fun t q => t.modPair q fun r => r.dropLearned lane).modPair p fun r =>
        { r with lane := some { lane := lane, source := .pinned } }
    else s
  | none => s

/-- The pins of the active profile reach the Lane Map (R40). -/
def State.applyPins (s : State) : State := (s.forPairs State.dropStalePin).forPairs State.enterPin

/-- The far lane of each pair. -/
def State.lanes (s : State) : List (Option (Fin 8)) := allPairs.map fun p => (s.pair p).lane.map LaneEntry.lane

/-- A pair checked after an application has changed the Lane Map (R182). -/
def State.checkLane (before : List (Option (Fin 8))) (s : State) (p : Pair) : State :=
  let r := s.pair p
  match r.state with
  | .proving => if r.lane.map LaneEntry.lane = before.getD p.val none then s else s.enterDown p .none false
  | .active => if r.lane.map LaneEntry.lane = before.getD p.val none then s else s.enterDown p .none false
  | .down => if r.reason = .laneConflict then s.modPair p fun r => { r with reason := .none } else s
  | _ => s

/-- The recheck after an application: made when the Lane Map has changed (R182; log entry 36). -/
def State.recheckLanes (s : State) (before : List (Option (Fin 8))) : State :=
  if s.lanes = before then s else s.forPairs (State.checkLane before)

/-! ## The surge stop (R180, R189 to R193) -/

/-- The stop has come into force: every pair that is not OUT enters HELD (R180, R190). -/
def State.stopEntry (s : State) : State :=
  let t : State := { s with sup := { s.sup with stopView := true } }
  t.forPairs fun u p => if (u.pair p).state = .out ∨ (u.pair p).state = .held then u else u.hold p

/-- The stop has ended: every HELD pair enters DOWN (R180, R190). -/
def State.stopEnd (s : State) : State :=
  let t : State := { s with sup := { s.sup with stopView := false } }
  t.forPairs fun u p => if (u.pair p).state = .held then u.enterDown p .none false else u

/-- The stop recomputed: in force exactly while the flag is set and the enable is on; each change is told (section 9.1, R190). -/
def State.recomputeStop (s : State) : State :=
  let inForce := s.surge.flag && s.prof.active.surgeEnable
  if inForce = s.surge.stop then s
  else
    let t : State := { s with surge := { s.surge with stop := inForce } }
    if inForce then (t.bump .stopEntry).stopEntry else t.stopEnd

/-- A falling edge of SURGE_N is latched (R189). -/
def State.surgeLatch (s : State) : State :=
  let t : State := { s with surge := { s.surge with flag := true } }
  ((t.raise .surge).bump .surgeEdge).recomputeStop

/-- A surge acknowledge is judged (R192). -/
def State.acknowledge (s : State) : State :=
  if s.surge.flag then
    if s.pins.surgeN then
      State.recomputeStop { (s.bump .ackAccepted) with surge := { s.surge with flag := false } }
    else (s.raise .surge).bump .ackRefused
  else s.bump .ackIdle

/-! ## Status timers (R156) -/

/-- A status timer's expiry: it starts again from the time the expiry is taken (R156, R175; log entry 40). -/
def State.statusExpire (s : State) (p : Pair) : State :=
  s.modPair p fun r =>
    let t := { r with statusTimer := some (s.now + s.prof.active.statusInterval), statusDue := true, recentErrors := 0 }
    if r.statusDue then t.bump .statusSkipped 1 else t

end Sys2Proof.Machine
end

