-- ==== Sys2Proof/Machine/PairCommands.lean ====
section
/-! DEFINITION. The meanings of the Pair Supervisor's and the Surge Monitor's commands (R167, R169, R173 to R179, R189). -/

namespace Sys2Proof.Machine

/-- Whether a pair is in a state whose state deadline is reached (R164). -/
def State.stateDue (s : State) (p : Pair) (st : PairState) : Bool := (s.pair p).state == st && s.due (s.pair p).deadline

/-- A drained notice is taken: a pair OUT with reason DRAINING starts, any other ignores it (R167). -/
def State.takeDrained (s : State) (p : Pair) : State :=
  let t := s.modPair p fun r => { r with drained := false }
  if (s.pair p).state = .out ∧ (s.pair p).reason = .draining then t.startPair p else t

/-- The proving record's test (R173). -/
def State.provingPasses (s : State) (p : Pair) : Bool :=
  s.prof.active.provingMinimum ≤ (s.pair p).proving.received.toNat &&
    (s.pair p).proving.errored.toNat ≤ s.prof.active.provingTolerance

/-- The end of a proving period (R173). -/
def State.endProving (s : State) (p : Pair) : State :=
  if s.provingPasses p then s.enterActive p else (s.bumpPair p .provingFail).failProving p .provingFailed

/-- The silence deadline of a PROVING or ACTIVE pair is reached (R174). -/
def State.silenceDue (s : State) (p : Pair) : State :=
  if s.due (s.pair p).silence then
    match (s.pair p).state with
    | .proving => (s.bumpPair p .silenceExpiry).failProving p .silent
    | .active => (s.bumpPair p .silenceExpiry).lose p
    | _ => s
  else s

/-- Whether an ACTIVE pair has stayed so for 600 000 ms (R176). -/
def State.longActive (s : State) (p : Pair) : Bool :=
  (s.pair p).state == .active && s.due ((s.pair p).entered.map (· + 600000))

/-- SURGE_N falls; an edge while it is low already is none (R189). While RESET_N is low only the level is kept (log entry 6). -/
def State.surgeFall (s : State) : State :=
  if s.pins.surgeN then
    let t : State := { s with pins := { s.pins with surgeN := false } }
    t.whenUp State.surgeLatch
  else s

/-- DRAINED_PAIR_START of a pair (R167). -/
def execDrainedPairStart (pair : Pair) (s : State) : Host.Outcome State Fault Refusal :=
  .next (s.whenUp fun t => t.whenever (t.pair pair).drained fun u => u.takeDrained pair)

/-- PROVING_PERIOD_END of a pair (R173). -/
def execProvingPeriodEnd (pair : Pair) (s : State) : Host.Outcome State Fault Refusal :=
  .next (s.whenUp fun t => t.whenever (t.stateDue pair .proving) fun u => u.endProving pair)

/-- RETRY_HOLDOFF_EXPIRY of a pair: its state deadline becomes absent (R169). -/
def execRetryHoldoffExpiry (pair : Pair) (s : State) : Host.Outcome State Fault Refusal :=
  .next (s.whenUp fun t => t.whenever (t.stateDue pair .down) fun u => u.modPair pair fun r => { r with deadline := none })

/-- SILENCE_EXPIRY of a pair (R174). -/
def execSilenceExpiry (pair : Pair) (s : State) : Host.Outcome State Fault Refusal :=
  .next (s.whenUp fun t => t.silenceDue pair)

/-- LOSS_HOLDOFF_EXPIRY of a pair (R178). -/
def execLossHoldoffExpiry (pair : Pair) (s : State) : Host.Outcome State Fault Refusal :=
  .next (s.whenUp fun t => t.whenever (t.stateDue pair .lost) fun u => u.enterDown pair .holdoff false)

/-- PENALTY_END of a pair (R179). -/
def execPenaltyEnd (pair : Pair) (s : State) : Host.Outcome State Fault Refusal :=
  .next (s.whenUp fun t => t.whenever (t.stateDue pair .quarantine) fun u => u.enterDown pair .holdoff false)

/-- QUARANTINE_FACTOR_RESET of a pair (R176). -/
def execQuarantineFactorReset (pair : Pair) (s : State) : Host.Outcome State Fault Refusal :=
  .next (s.whenUp fun t => t.whenever (t.longActive pair) fun u => u.modPair pair fun r => { r with factor := 0 })

/-- SURGE_FALLING_EDGE (R189). -/
def execSurgeFallingEdge (s : State) : Host.Outcome State Fault Refusal := .next s.surgeFall

/-- SURGE_RISING_EDGE (R189): only the level changes. -/
def execSurgeRisingEdge (s : State) : Host.Outcome State Fault Refusal :=
  .next { s with pins := { s.pins with surgeN := true } }

end Sys2Proof.Machine
end

