-- ==== Sys2Proof/Machine/Arrival.lean ====
section
/-! DEFINITION. The Landing Unit's handling of one receive ring write: voids, tears, starts, continuations, completion, the lane
check and routing (R24, R28, R33 to R42). -/

namespace Sys2Proof.Machine

/-! ## Voids (R39) -/

/-- The holder of a voided cell is told (R39, R58, R112). -/
def State.voidNotice (s : State) (p : Pair) (c : Nat) (use : Half) : Holder → State
  | .window => s.windowVoid p c use
  | .delivery => s.deliveryVoid p c use

/-- A write that touches a HELD cell voids it: the cell is FREE, the holder is told, and then R30 is applied (R39). -/
def State.voidCell (s : State) (p : Pair) (c : Nat) : State :=
  match (s.pair p).cells[c]? with
  | some (.held use h) => (((s.bumpPair p .voided).vacate p c).voidNotice p c use h).releaseAdvance p
  | _ => s

/-! ## Routing and completion (R35, R41, R42) -/

/-- A landing that has reached its target: what is needed of it. -/
structure Completed where
  hdr      : Header
  matching : Bool
  captured : List Word
  cell     : Nat
  use      : Half
deriving DecidableEq, Repr

/-- The captured payload of a STATUS of length 16 (R26). -/
def Completed.payload (x : Completed) : Option StatusPayload :=
  if x.hdr.length = 16 then some (parseStatus (x.captured.getD 0 0) (x.captured.getD 1 0)) else none

/-- The landed record of a DATA fragment (R42). -/
def Completed.record (x : Completed) (p : Pair) (now : Time) : DataRecord :=
  { pair := p, cell := x.cell, use := x.use, generation := x.hdr.generation, sequence := x.hdr.sequence,
    length := x.hdr.length.toNat, s := x.hdr.s, e := x.hdr.e, time := now }

/-- A lane-right fragment is routed by kind (R42). -/
def State.route (s : State) (p : Pair) (x : Completed) : State :=
  if x.hdr.kind = kindData then (s.arrive p).admitData (x.record p s.now)
  else if x.hdr.kind = kindStatus then (s.cellFree p x.cell).takeStatus p x.payload
  else (s.cellFree p x.cell).takeProve p (x.hdr.length == 256 && x.matching)

/-- A fragment dropped by the lane check (R41). -/
def State.dropLane (s : State) (p : Pair) (x : Completed) (c : PCounter) : State := (s.bumpPair p c).cellFree p x.cell

/-- The lane check, then routing (R41, R42). -/
def State.laneCheck (s : State) (p : Pair) (x : Completed) : State :=
  match (s.pair p).lane with
  | some e => if e.lane = x.hdr.lane then s.route p x else s.dropLane p x .wrongLane
  | none =>
    if (s.pair p).state = .down then
      if (s.laneHolder x.hdr.lane).isSome then (s.dropLane p x .laneConflict).conflictNotice p
      else
        (s.modPair p fun r => { r with lane := some { lane := x.hdr.lane, source := .learned } }).route p x
    else s.dropLane p x .noLane

/-- The counter of a completed landing's kind (R35). -/
def landedCounter (kind : BitVec 3) : PCounter :=
  if kind = kindData then .landedData else if kind = kindStatus then .landedStatus else .landedProve

/-- A header-valid landing completes (R35). -/
def State.completeLanding (s : State) (p : Pair) (hdr : Header) (matching : Bool) (captured : List Word) : State :=
  let use := (s.pair p).landed
  let cell := (s.pair p).cellOf use
  ((s.modPair p fun r => { r with landed := r.landed + 1, cursor := .idle }).bumpPair p (landedCounter hdr.kind)).laneCheck p
    { hdr := hdr, matching := matching, captured := captured, cell := cell, use := use }

/-! ## The words of a landing (R24, R34, R37) -/

def State.setCursor (s : State) (p : Pair) (c : Cursor) : State := s.modPair p fun r => { r with cursor := c }

/-- A header error: the cursor absorbs, the cause is set and the Pair Supervisor is told (R37, R43). -/
def State.headerError (s : State) (p : Pair) (cause : ErrorCause) : State :=
  ((s.modPair p fun r => { r with cursor := .absorbing cause, lastError := cause }).bumpPair p .headerError).headerErrorNotice p

/-- Whether a payload word of this header is captured (R26, R34). -/
def capturesWord (hdr : Header) (k : Nat) : Bool := hdr.kind == kindStatus && hdr.length == 16 && k < 4

/-- One payload word, number k of the payload, taken into the comparison and the capture (R27, R34). -/
def payloadMatch (hdr : Header) (matching : Bool) (k : Nat) (w : Word) : Bool :=
  matching && (hdr.kind != kindProve || proveWordMatches hdr.info hdr.length.toNat k w)

/-- One word of a landing is taken; words after its end are ignored (R34, R35). -/
def State.landWord (s : State) (p : Pair) (w : Word) : State :=
  match (s.pair p).cursor with
  | .idle => s
  | .absorbing _ => s
  | .header first =>
    match classifyHeader first w with
    | .none => s.setCursor p (.payload 2 (parseHeader first w) true [])
    | cause => s.headerError p cause
  | .payload seen hdr matching captured =>
    let m := payloadMatch hdr matching (seen - 2) w
    let c := if capturesWord hdr (seen - 2) then captured ++ [w] else captured
    if seen + 1 = fragmentWords hdr.length.toNat then s.completeLanding p hdr m c
    else s.setCursor p (.payload (seen + 1) hdr m c)

def State.landWords (s : State) (p : Pair) (words : List Word) : State := words.foldl (fun t w => t.landWord p w) s

/-- A landing starts in the cell of use L (R33). -/
def State.startLanding (s : State) (p : Pair) (words : List Word) : State :=
  match words with
  | [] => s
  | w :: ws =>
    (s.modPair p fun r =>
      { (r.setCell (r.cellOf r.landed) (.landing r.landed)) with cursor := .header w }).landWords p ws

/-! ## The four steps of an arrival (R28) -/

/-- A write at offset 0 of the next cell, (L + 1) mod N. -/
def PairRec.startsNext (r : PairRec) (c offset : Nat) : Bool := c == r.cellOf (r.landed + 1) && offset == 0

/-- Whether a write tears a landing in HEADER or PAYLOAD (R36). -/
def PairRec.tears (r : PairRec) (cls : RingClass) (c offset expected : Nat) : Bool :=
  (c == r.cellOf r.landed && (cls != .owner || offset != expected)) || (cls == .owner && r.startsNext c offset)

/-- Step 2: the landing in progress is torn, or its absorbing cell ends (R36, R37). -/
def State.endInProgress (s : State) (p : Pair) (cls : RingClass) (c offset : Nat) : State :=
  let r := s.pair p
  match r.cursor with
  | .idle => s
  | .absorbing _ => if cls == .owner && r.startsNext c offset then s.endLanding p else s
  | .header _ => if r.tears cls c offset 4 then (s.bumpPair p .torn).endLanding p else s
  | .payload seen _ _ _ => if r.tears cls c offset (4 * seen) then (s.bumpPair p .torn).endLanding p else s

/-- Step 4 for an OWNER write: it starts or continues a landing, is absorbed, or is a skip (R33, R34, R37, R38). -/
def State.takeOwner (s : State) (p : Pair) (c offset : Nat) (words : List Word) : State :=
  let r := s.pair p
  let here := c == r.cellOf r.landed
  match r.cursor with
  | .idle =>
    if here && offset == 0 && r.cells[c]? == some .free then s.startLanding p words else s.bumpPair p .ringSkip
  | .absorbing _ => if here then s else s.bumpPair p .ringSkip
  | .header _ => if here && offset == 4 then s.landWords p words else s.bumpPair p .ringSkip
  | .payload seen _ _ _ => if here && offset == 4 * seen then s.landWords p words else s.bumpPair p .ringSkip

/-- A write into a receive ring reaches the Landing Unit (R28). -/
def State.ringArrival (s : State) (p : Pair) (cls : RingClass) (c offset : Nat) (words : List Word) : State :=
  let t := s.voidCell p c
  if (t.pair p).state = .out then (if cls = .owner then t.bumpPair p .outWrite else t)
  else
    let u := (t.endInProgress p cls c offset).releaseAdvance p
    if cls = .owner then u.takeOwner p c offset words else u

end Sys2Proof.Machine
end

