-- ==== Sys2Proof/Machine/Operands.lean ====
section
/-! DEFINITION. The Aperture Decoder (section 1.2): the class of each word of a transaction, and what a WRITE's words bring about. -/

namespace Sys2Proof.Machine

/-! ## The class of a word (R3 to R9) -/

/-- What an address is to the Aperture Decoder. -/
inductive WordClass where
  | outside
  /-- A Profile Block word by its field number. -/
  | profile (field : Nat)
  /-- The submission producer count (+0). -/
  | submissionCount
  /-- The delivery consumer count (+8). -/
  | deliveryCount
  /-- The transmit consumer count of a pair (+24 + 16p). -/
  | transmitCount (pair : Pair)
  /-- Any other Count Block word. -/
  | partWritten
  /-- A word of a pair's receive ring, by its byte offset in the ring. -/
  | ring (pair : Pair) (offset : Nat)
  /-- A word of a transmit cell allocated to a pair. -/
  | cell (pair : Pair)
  /-- A word of the Transmit Pool that no pair is allocated. -/
  | freeCell
  /-- A Report Block word by its byte offset. -/
  | report (offset : Nat)
  | submissionRing
  | deliveryRing
  /-- A Delivery Window word by its byte offset. -/
  | window (offset : Nat)
deriving DecidableEq, Repr

/-- The class of a Count Block word by its offset (R5, R220). -/
def countClass (o : Nat) : WordClass :=
  if o = 0 then .submissionCount
  else if o = 8 then .deliveryCount
  else if h : 16 ≤ o ∧ o < 144 ∧ (o - 16) % 16 = 8 then .transmitCount ⟨(o - 16) / 16, by omega⟩
  else .partWritten

/-- The pair whose placed receive ring holds an address, with the offset in the ring (R6). -/
def Image.ringAt (a : Image) (addr : Nat) : Option (Pair × Nat) :=
  allPairs.findSome? fun p => (offsetIn (a.ringBase p) (1024 * a.ringCells p) addr).map fun o => (p, o)

/-- The pair whose allocated run holds an address, by the recorded pool base (R7, R138). -/
def State.cellAt (s : State) (addr : Nat) : Option Pair :=
  match offsetIn s.dist.poolBase (1024 * s.dist.poolSize) addr with
  | some o =>
    allPairs.find? fun p => (s.pair p).alloc.first ≤ o / 1024 && o / 1024 < (s.pair p).alloc.first + (s.pair p).alloc.count
  | none => none

/-- The class of a word address against the profile that is active now (R1; log entry 31). -/
def State.wordClass (s : State) (addr : Nat) : WordClass :=
  let a := s.prof.active
  if (profileExtent s.pins.straps).holds addr then .profile ((addr - (profileExtent s.pins.straps).base) / 4)
  else
    match offsetIn a.reportBase reportSize addr, offsetIn a.countBase countSize addr, offsetIn a.windowBase windowSize addr,
      a.ringAt addr, s.cellAt addr with
    | some o, _, _, _, _ => .report o
    | none, some o, _, _, _ => countClass o
    | none, none, some o, _, _ => .window o
    | none, none, none, some x, _ => .ring x.1 x.2
    | none, none, none, none, some p =>
      if (offsetIn a.deliveryRing deliveryRingSize addr).isSome then .deliveryRing
      else if (offsetIn a.submissionBase (16 * a.submissionSize) addr).isSome then .submissionRing
      else .cell p
    | none, none, none, none, none =>
      if (offsetIn a.deliveryRing deliveryRingSize addr).isSome then .deliveryRing
      else if (offsetIn a.submissionBase (16 * a.submissionSize) addr).isSome then .submissionRing
      else if (offsetIn a.poolBase (1024 * a.poolSize) addr).isSome then .freeCell
      else .outside

/-- The addresses of the words of a transaction. -/
def wordAddrs (addr : Word) (count : Nat) : List Nat := (List.range count).map fun k => addr.toNat + 4 * k

/-- The classes of the words of a transaction. -/
def State.classes (s : State) (addr : Word) (count : Nat) : List WordClass := (wordAddrs addr count).map s.wordClass

/-- A burst whose first and last words lie in different 1 KiB-aligned blocks (R1). -/
def crossesBlock (addr : Word) (count : Nat) : Bool :=
  addr.toNat / 1024 != (addr.toNat + 4 * (count - 1)) / 1024

def WordClass.isWindow : WordClass → Bool
  | .window _ => true
  | _ => false

/-- The Delivery Window offset of a transaction in it; it lies wholly within (R3, R9). -/
def windowOffset : List WordClass → Option Nat
  | .window o :: _ => some o
  | _ => none

/-- A publication-range word: a Report Block offset of 16 or above (R8). -/
def WordClass.inRange : WordClass → Bool
  | .report o => 16 ≤ o
  | _ => false

/-- Whether a READ's data begins with the word of the event-set field (R8, R210; log entry 35). -/
def readsEventSet : List WordClass → Bool
  | .report 0 :: _ => true
  | _ => false

/-! ## What a written word is (R4 to R7, R10) -/

/-- The treatment of one written word. -/
inductive Treatment where
  /-- Forwarded and not acted on. -/
  | plain
  | capture (field : Nat) (data : Word)
  /-- A foreign Profile Block word, or a part-written Count Block word: forwarded under either guard setting. -/
  | foreignOpen
  /-- A foreign Profile Block word: forwarded, not captured, and watched (R4, R12). -/
  | foreignProfile
  /-- A foreign write of a host- or transceiver-written Count Block word. -/
  | foreignCount
  /-- A partial write of a snooped word by its expected writer. -/
  | partialSnoop
  | submissionProducer (value : Half)
  | deliveryConsumer (value : Half)
  | transmitConsumer (pair : Pair) (value : Half)
  | ringOwner (pair : Pair) (offset : Nat)
  | ringForeign (pair : Pair) (offset : Nat)
  | foreignCell (pair : Pair)
  | stray
deriving DecidableEq, Repr

/-- A snooped word's treatment: foreign before partial (R10). -/
def snooped (expected : Bool) (foreign : Treatment) (w : WriteWord) (taken : Treatment) : Treatment :=
  if expected then (if wholeWord w then taken else .partialSnoop) else foreign

/-- The treatment of one written word by its class and the requester (R4 to R10). -/
def Image.treat (a : Image) (tag : Tag) (w : WriteWord) : WordClass → Treatment
  | .profile f => snooped (a.isControl tag) .foreignProfile w (.capture f w.data)
  | .submissionCount => snooped (a.isControl tag) .foreignCount w (.submissionProducer (lowHalf w.data))
  | .deliveryCount => snooped (a.isControl tag) .foreignCount w (.deliveryConsumer (lowHalf w.data))
  | .transmitCount p => snooped (a.isTransceiver p tag) .foreignCount w (.transmitConsumer p (lowHalf w.data))
  | .partWritten => .foreignOpen
  | .ring p o => if a.isTransceiver p tag then .ringOwner p o else .ringForeign p o
  | .cell p => .foreignCell p
  | .window _ => .stray
  | .outside => .plain
  | .freeCell => .plain
  | .report _ => .plain
  | .submissionRing => .plain
  | .deliveryRing => .plain

/-- The treatments of a WRITE's words, in address order. -/
def State.treatments (s : State) (tag : Tag) (addr : Word) (data : List WriteWord) : List Treatment :=
  (data.zip (s.classes addr data.length)).map fun x => s.prof.active.treat tag x.1 x.2

/-- A foreign word under guard mode (R10). -/
def Treatment.guarded : Treatment → Bool
  | .foreignCount => true
  | .ringForeign _ _ => true
  | .foreignCell _ => true
  | _ => false

/-- A word counted in FOREIGN_WRITE (R4, R5, R21). -/
def Treatment.countsForeign : Treatment → Bool
  | .foreignOpen => true
  | .foreignProfile => true
  | .foreignCount => true
  | _ => false

/-- A word that makes its write watched (R12). -/
def Treatment.watched : Treatment → Bool
  | .capture _ _ => true
  | .foreignProfile => true
  | .submissionProducer _ => true
  | .deliveryConsumer _ => true
  | .transmitConsumer _ _ => true
  | .ringOwner _ _ => true
  | .ringForeign _ _ => true
  | _ => false

/-- The captured words of a write. -/
def capturedWords (ts : List Treatment) : List (Nat × Word) :=
  ts.filterMap fun t => match t with
    | .capture f w => some (f, w)
    | _ => none

/-- The counts a write hands on. -/
def snoopedCounts (ts : List Treatment) : List HandOn :=
  ts.filterMap fun t => match t with
    | .submissionProducer v => some (.submissionProducer v)
    | .deliveryConsumer v => some (.deliveryConsumer v)
    | .transmitConsumer p v => some (.transmitConsumer p v)
    | _ => none

/-- The pair, class and offset of a receive ring write: it lies wholly within one ring (R3, R6). -/
def ringPart (data : List WriteWord) : List Treatment → Option (Pair × RingClass × Nat)
  | .ringOwner p o :: _ => some (p, if data.all wholeWord then .owner else .ownerPartial, o)
  | .ringForeign p o :: _ => some (p, .foreign, o)
  | _ => none

/-- What a write hands on once memory has answered it OK (R11), its words in address order; a ring write's cell and offset are
fixed here (log entry 32). -/
def handOns (data : List WriteWord) (ts : List Treatment) : List HandOn :=
  (if (capturedWords ts).isEmpty then [] else [.capture (capturedWords ts)]) ++ snoopedCounts ts ++
    match ringPart data ts with
    | some x => [.ringWrite x.1 x.2.1 (x.2.2 / 1024) (x.2.2 % 1024) (data.map WriteWord.data)]
    | none => []

/-! ## Events and counters of a WRITE as it is taken (R4 to R10, R21; log entry 12) -/

/-- The pair of a foreign transmit cell write; it lies in one cell (R3, R7). -/
def cellPart (ts : List Treatment) : Option Pair :=
  ts.findSome? fun t => match t with
    | .foreignCell p => some p
    | _ => none

/-- Counters of foreign words, one per transaction (R21). -/
def State.countForeign (s : State) (data : List WriteWord) (ts : List Treatment) : State :=
  let a := if ts.any Treatment.countsForeign then s.bump .foreignWrite else s
  let b := match ringPart data ts with
    | some (p, .foreign, _) => a.bumpPair p .foreignRingWrite
    | _ => a
  match cellPart ts with
  | some p => b.bumpPair p .foreignCellWrite
  | none => b

/-- Counters of partial words of a forwarded write (R6, R10, R21). -/
def State.countPartial (s : State) (data : List WriteWord) (ts : List Treatment) : State :=
  let a := if ts.any (· == .partialSnoop) then s.bump .partialSnoop else s
  match ringPart data ts with
  | some (p, .ownerPartial, _) => a.bumpPair p .partialRingWrite
  | _ => a

/-- Whether a forwarded write raises FOREIGN_ACCESS, once (R4, R5, R6, R7, R10). -/
def raisesForeign (data : List WriteWord) (ts : List Treatment) : Bool :=
  ts.any (fun t => t.guarded || t.countsForeign || t == .partialSnoop) ||
    match ringPart data ts with
    | some (_, .ownerPartial, _) => true
    | _ => false

end Sys2Proof.Machine
end

