-- ==== Sys2Proof/Machine/Report.lean ====
section
/-! DEFINITION. The Report Unit's publications (R211 to R214) and the report's content (R222, R223). -/

namespace Sys2Proof.Machine

/-! ## Codes of the report (R222, R223) -/

def PairState.code : PairState → Nat
  | .out => 1 | .down => 2 | .proving => 3 | .active => 4 | .lost => 5 | .quarantine => 6 | .held => 7

def Reason.code : Reason → Nat
  | .none => 0 | .draining => 1 | .noCells => 2 | .laneConflict => 3 | .provingFailed => 4 | .silent => 5 | .holdoff => 6

def ProvingOutcome.code : ProvingOutcome → Nat
  | .none => 0 | .pass => 1 | .fail => 2

def ErrorCause.code : ErrorCause → Nat
  | .none => 0 | .check => 1 | .kind => 2 | .length => 3

def Cursor.code : Cursor → Nat
  | .idle => 0 | .header _ => 1 | .payload _ _ _ _ => 2 | .absorbing _ => 3

def LaneSource.code : LaneSource → Nat
  | .pinned => 1 | .learned => 2

def RejectCode.code : RejectCode → Nat
  | .none => 0 | .range => 1 | .overlap => 2 | .liveRing => 3 | .pinConflict => 4

def PubState.code : PubState → Nat
  | .idle => 0 | .due => 1 | .publishing => 2

def ClockSource.code : ClockSource → Nat
  | .reference => 1 | .internal => 2

def TxClass.code : TxClass → Nat
  | .express => 1 | .bulk => 2

def WorkKind.code : WorkKind → Nat
  | .data _ => 1 | .status => 2 | .prove => 3

/-- The word of four byte values. -/
def word4 (b0 b1 b2 b3 : Nat) : Word := wordOfBytes (byteOfNat b0) (byteOfNat b1) (byteOfNat b2) (byteOfNat b3)

/-- The word of a count and two byte values. -/
def word2 (h : Half) (b2 b3 : Nat) : Word := wordOfHalves h (byteOfNat b2 ++ byteOfNat b3)

/-- A 32-bit value, 0 when absent. -/
def orZero (t : Option Word) : Word := t.getD 0

/-! ## The global state (R222) -/

/-- The held reads. -/
def State.heldReads (s : State) : Nat := s.path.up.countP fun t => t.stage == .held

def Pos.isLanded : Pos → Bool
  | .landed _ => true
  | _ => false

def State.landedCount (s : State) : Nat := s.reseq.window.toList.countP Pos.isLanded
def State.lostCount (s : State) : Nat := s.reseq.window.toList.countP fun p => p == .lost

def State.waitingOf (s : State) (c : TxClass) : Nat := s.subm.queue.countP fun e => e.isWaiting && e.cls == c

/-- Words of the frame being cut, at +120 byte 2 to +135 (R222). -/
def State.cuttingWords (s : State) : List Word :=
  match s.subm.cuttingEntry with
  | some e =>
    [word4 (s.waitingOf .express) (s.waitingOf .bulk) e.cls.code e.published, wordOfHalves e.hostTag (halfOf e.length),
     word2 (halfOf e.bytesCut) 0 0, orZero (s.stallDeadline e)]
  | none => [word4 (s.waitingOf .express) (s.waitingOf .bulk) 0 0, 0, 0, 0]

/-- The words at +16 to +135 (R222). -/
def State.globalWords (s : State) : List Word :=
  [word2 s.rep.pubCount s.rep.pubState.code s.heldReads,
   s.rep.pubStart,
   word2 s.clock.epochCount s.clock.source.code
     (bitOf s.surge.flag 0 + bitOf s.surge.stop 1 + bitOf s.pins.surgeN 2 + bitOf s.prof.active.surgeEnable 3),
   word4 (s.dist.generation.getD 0).toNat (bitOf s.dist.target.isSome 0 + bitOf s.dist.toReplace.isSome 1)
     (match s.dist.copier with
      | some w => w.kind.code
      | none => 0)
     (match s.dist.copier with
      | some w => w.pair.val
      | none => 0),
   word2 s.dist.nextSeq s.reseq.generation.toNat
     (bitOf s.reseq.synced 0 + bitOf s.reseq.blocked 1 + bitOf s.reseq.skew.isSome 2),
   wordOfHalves s.reseq.head s.reseq.lostTally,
   wordOfHalves s.reseq.discardedTally (halfOf s.landedCount),
   word2 (halfOf s.lostCount) 0 0,
   (match s.reseq.skew with
    | some k => wordOfHalves k.gap k.reference
    | none => 0),
   (match s.reseq.skew with
    | some k => k.deadline
    | none => 0),
   word4 s.sup.peerMap.toNat (bitOf s.sup.peerValid 0) s.sup.peerGeneration.toNat 0,
   word2 s.sup.peerHead 0 0,
   wordOfHalves (s.prof.lastApplied.getD 0) (s.prof.lastRejected.getD 0),
   wordOfHalves
     (byteOfNat (bitOf s.prof.lastApplied.isSome 0 + bitOf s.prof.lastRejected.isSome 1 + bitOf s.prof.waiting.isSome 2) ++
       byteOfNat s.prof.rejectCode.code) s.prof.rejectField,
   wordOfHalves (s.prof.waiting.getD 0) s.prof.actedBond,
   wordOfHalves s.prof.actedAck s.prof.actedOneShot,
   wordOfHalves s.prof.actedInject[0] s.prof.actedInject[1],
   wordOfHalves s.prof.actedInject[2] s.prof.actedInject[3],
   wordOfHalves s.prof.actedInject[4] s.prof.actedInject[5],
   wordOfHalves s.prof.actedInject[6] s.prof.actedInject[7],
   wordOfHalves s.deliv.producer s.deliv.consumer,
   word2 s.deliv.oldest s.deliv.queue.length (s.deliv.queue.countP FrameRec.pinned),
   word4 (s.deliv.queue.countP FrameRec.released) (s.deliv.queue.map FrameRec.pins).sum
     (bitOf s.subm.ring.isSome 0 + bitOf s.subm.ringWaiting 1 + bitOf s.subm.fetch.isSome 2) 0,
   (match s.subm.ring with
    | some r => wordOf r.base
    | none => 0),
   wordOfHalves (match s.subm.ring with
    | some r => halfOf r.size
    | none => 0) s.subm.produced,
   wordOfHalves s.subm.fetched s.subm.completed] ++ s.cuttingWords

/-! ## The record of a pair (R223) -/

/-- The presence bits of word 3 (R223). -/
def State.presence (s : State) (p : Pair) : Nat :=
  let r := s.pair p
  bitOf r.silence.isSome 0 + bitOf r.deadline.isSome 1 + bitOf r.entered.isSome 2 + bitOf r.horizon.isSome 3 +
    bitOf (s.eligible p) 4 + bitOf r.statusDue 5 + bitOf r.injectOnce 6

/-- Words 0 to 23 of a pair's record (R223). -/
def State.pairWords (s : State) (p : Pair) : List Word :=
  let r := s.pair p
  [word4 r.state.code r.reason.code
     (match r.lane with
      | some e => e.lane.val
      | none => 255)
     (match r.lane with
      | some e => e.source.code
      | none => 0),
   orZero r.silence,
   orZero r.deadline,
   word4 (s.presence p) r.recentErrors r.factor r.peerState.toNat,
   orZero r.entered,
   wordOfHalves r.proving.sent r.proving.received,
   word2 r.proving.errored r.proving.outcome.code r.flaps.length,
   r.flaps.getD 0 0, r.flaps.getD 1 0, r.flaps.getD 2 0, r.flaps.getD 3 0,
   wordOfHalves r.landed r.released,
   wordOfHalves (byteOfNat r.cursor.code ++ byteOfNat r.lastError.code) (r.horizon.getD 0),
   allocWord r.alloc,
   wordOfHalves r.fill r.produced,
   word2 r.consumed r.proveIndex.toNat (if s.prof.active.injectContinuous p then 1 else 0),
   BitVec.ofInt 32 r.credit,
   0, 0, 0, 0, 0, 0, 0]

/-- Word k of a pair's record: 24 words of state, then the 40 counters (R223). -/
def State.pairWord (s : State) (p : Pair) (k : Nat) : Word :=
  if k < 24 then (s.pairWords p).getD k 0 else (s.pair p).counters.toList.getD (k - 24) 0

/-! ## The report by its words (section 11.7) -/

/-- Word k of the Report Block from its base, for the words of the publication; every other word is written 0. -/
def State.reportWord (s : State) (k : Nat) : Word :=
  if k < 4 then 0
  else if k < 34 then s.globalWords.getD (k - 4) 0
  else if k < 64 then 0
  else if k < 128 then s.counters.toList.getD (k - 64) 0
  else if k < 256 then 0
  else if k < 448 then s.prof.active.word (k - 256)
  else if k < 512 then 0
  else if h : (k - 512) / 64 < 8 then s.pairWord ⟨(k - 512) / 64, h⟩ ((k - 512) % 64)
  else 0

/-- The byte offset of publication write i, and its word count (R213). -/
def publicationOffset (i : Nat) : Nat := if i = 0 then 16 else 64 * i
def publicationWords (i : Nat) : Nat := if i = 0 then 12 else 16

/-- The content of publication write i, as it stands (R213). -/
def State.publicationContent (s : State) (i : Nat) : List Word :=
  (List.range (publicationWords i)).map fun k => s.reportWord (publicationOffset i / 4 + k)

/-! ## Publication states (R211 to R214) -/

def State.modRep (s : State) (f : Report → Report) : State := { s with rep := f s.rep }

/-- A publication-range read that is forwarded and not yet answered (R212). -/
def UpTx.openRange (t : UpTx) : Bool := t.pubRange && t.stage != .held

def State.rangeOpen (s : State) : Bool := s.path.up.any UpTx.openRange

/-- A publication write posted to the Report Publisher (R213). -/
def State.postPublication (s : State) (i : Nat) : State :=
  s.modRep fun r => { r with pubWrite := some { index := i, data := s.publicationContent i, issued := false } }

/-- The start of a publication (R212). A DUE publication's Report Block is placed (R200). -/
def State.startPublication (s : State) : State :=
  State.postPublication (s.modRep fun r =>
    { r with pubState := .publishing, pubCount := r.pubCount + 1, pubStart := s.now,
             pubBase := s.prof.active.reportBase.getD 0, ended := false }) 0

/-- A publication becomes DUE, and starts at once when no publication-range read is open (R212). -/
def State.becomeDue (s : State) : State :=
  let t := s.modRep fun r => { r with pubState := .due }
  if t.rangeOpen then t else t.startPublication

/-- A publication cause (R211). -/
def State.publicationCause (s : State) : State :=
  match s.rep.pubState with
  | .idle => s.becomeDue
  | .due => s.bump .reportMerged
  | .publishing => if s.rep.followOn then s.bump .reportMerged else s.modRep fun r => { r with followOn := true }

/-- The held reads are forwarded: they join the pass-through requests in the order they were taken (R213). -/
def State.releaseHeld (s : State) : State :=
  s.setUp (s.path.up.map fun t => if t.stage = .held then { t with stage := .waiting } else t)

/-- The publication state after an end: IDLE, or DUE with a follow-on mark (R213). -/
def State.afterPublication (s : State) : State :=
  let t := s.modRep fun r => { r with ended := false, followOn := false, pubState := .idle }
  if s.rep.followOn then t.becomeDue else t

/-- The 64th write has ended: the Event Word is posted with the new count and PUBLICATIONS counted. Held reads are released by a
step of their own; with none, the state moves on in this event (R213; log entry 26). -/
def State.endPublication (s : State) : State :=
  let t := ((s.modRep fun r => { r with pubWrite := none, ended := true, endedCount := r.pubCount }).postEventWord).bump
    .publications
  if t.heldReads = 0 then t.afterPublication else t

/-- A publication write has ended, OK or not (R213, R214). -/
def State.publicationAnswered (s : State) (ok : Bool) : State :=
  let t := if ok then s else s.bump .publishFault
  match s.rep.pubWrite with
  | some w => if w.index + 1 < 64 then t.postPublication (w.index + 1) else t.endPublication
  | none => t

/-- A one-shot request: a cause, or ignored in OFF (R211). -/
def State.oneShot (s : State) : State :=
  if s.prof.active.reportMode = 0 then s.bump .requestIgnored else s.publicationCause

/-- An application's change of the report mode (R211). -/
def State.reportModeChange (s : State) (old : Nat) : State :=
  let new := s.prof.active.reportMode
  let timed :=
    if new = 1 then
      if old = 1 then s else s.modRep fun r => { r with timer := some (s.now + s.prof.active.reportInterval) }
    else s.modRep fun r => { r with timer := none }
  if new = 0 then
    match timed.rep.pubState with
    | .due => (timed.modRep fun r => { r with pubState := .idle }).releaseHeld
    | .publishing => timed.modRep fun r => { r with followOn := false }
    | .idle => timed
  else timed

end Sys2Proof.Machine
end

