-- ==== Sys2Proof/Machine/Path.lean ====
section
/-! DEFINITION. The Memory Path (chapter 1): taking upstream transactions, eligibility, arbitration and issue. -/

namespace Sys2Proof.Machine

/-! ## Taking a transaction (R1) -/

/-- The Upstream Port takes a transaction when fewer than 8 are open and none carries its label (R1). -/
def State.canTake (s : State) (label : Label) : Bool := s.path.up.length < 8 && (s.upTx label).isNone

/-- A transaction joins the open ones. -/
def State.openUp (s : State) (t : UpTx) : State := s.setUp (s.path.up ++ [t])

/-- A transaction waiting for a grant, with nothing special about it. -/
def waitingTx (label : Label) (tag : Tag) (kind : TxKind) (addr : Word) (count : Nat) (data : List WriteWord) : UpTx :=
  { label := label, tag := tag, kind := kind, addr := addr, count := count, data := data, watched := false, pubRange := false,
    eventRead := false, handOn := [], stage := .waiting }

/-- A transaction answered ERROR at once and counted REFUSED (R1, R17, R21). -/
def State.refuse (s : State) (label : Label) (tag : Tag) : State := (s.respond (errorResponse label tag)).bump .refused

/-- A write or locked kind into the Delivery Window (R9). -/
def State.strayAccess (s : State) (label : Label) (tag : Tag) : State :=
  ((s.respond (errorResponse label tag)).bump .strayAccess).raise .strayRead

/-- A Delivery Window read refused with STRAY_READ (R100, R101, R104). -/
def State.refuseWindow (s : State) (label : Label) (tag : Tag) (c : GCounter) : State :=
  ((s.respond (errorResponse label tag)).bump c).raise .strayRead

/-- An accepted Delivery Window read: it pins its frame, and its first piece joins the pass-through requests (R104, R105). -/
def State.acceptRead (s : State) (label : Label) (tag : Tag) (addr : Word) (count : Nat) (r : Redirect) : State :=
  let t := (s.modFrame r.frame fun f => { f with pins := f.pins + 1 }).bump .redirectedRead
  let u := if r.pieces.length = 2 then t.bump .splitRead else t
  u.openUp { waitingTx label tag .read addr count [] with stage := .redirected r }

/-- A READ in the Delivery Window (R9, R100 to R104). -/
def State.takeWindowRead (s : State) (label : Label) (tag : Tag) (addr : Word) (count offset : Nat) : State :=
  match s.windowRead offset count with
  | .noFrame => s.refuseWindow label tag .noFrameRead
  | .zero => (s.respond (okResponse label tag (List.replicate count 0))).bump .zeroRead
  | .void => s.refuseWindow label tag .voidRead
  | .accept r => s.acceptRead label tag addr count r

/-- A READ that is forwarded, or held by the Report Unit (R8, R212). -/
def State.forwardRead (s : State) (label : Label) (tag : Tag) (addr : Word) (count : Nat) (cs : List WordClass) : State :=
  let range := cs.any WordClass.inRange
  let t := { waitingTx label tag .read addr count [] with pubRange := range, eventRead := readsEventSet cs }
  if range && s.rep.pubState != .idle then (s.openUp { t with stage := .held }).bump .heldRead else s.openUp t

/-- A READ is taken (R1, R8, R9). -/
def State.takeRead (s : State) (label : Label) (tag : Tag) (addr : Word) (count : Nat) : State :=
  if crossesBlock addr count then s.refuse label tag
  else
    let cs := s.classes addr count
    match windowOffset cs with
    | some o => s.takeWindowRead label tag addr count o
    | none => s.forwardRead label tag addr count cs

/-- A WRITE refused under guard mode (R6, R7, R10; log entry 13). -/
def State.guardRefuse (s : State) (label : Label) (tag : Tag) (data : List WriteWord) (ts : List Treatment) : State :=
  ((s.respond (errorResponse label tag)).countForeign data ts).raise .foreignAccess

/-- A WRITE that is forwarded, with the events and counters of its words and what it will hand on (R4 to R12). -/
def State.forwardWrite (s : State) (label : Label) (tag : Tag) (addr : Word) (data : List WriteWord) (ts : List Treatment) :
    State :=
  let t := (s.countForeign data ts).countPartial data ts
  let u := if raisesForeign data ts then t.raise .foreignAccess else t
  u.openUp { waitingTx label tag .write addr data.length data with watched := ts.any Treatment.watched,
                                                                   handOn := handOns data ts }

/-- A WRITE is taken (R1, R4 to R10). -/
def State.takeWrite (s : State) (label : Label) (tag : Tag) (addr : Word) (data : List WriteWord) : State :=
  if crossesBlock addr data.length then s.refuse label tag
  else
    let ts := s.treatments tag addr data
    if ts.any (· == .stray) then s.strayAccess label tag
    else if s.prof.active.guardOn && ts.any Treatment.guarded then s.guardRefuse label tag data ts
    else s.forwardWrite label tag addr data ts

/-- A locked kind is taken: refused in an aperture, else it waits for a grant (R9, R17, R18). -/
def State.takeLocked (s : State) (t : UpTx) : State :=
  let cs := s.classes t.addr t.count
  if crossesBlock t.addr t.count then s.refuse t.label t.tag
  else if cs.any WordClass.isWindow then s.strayAccess t.label t.tag
  else if cs.any (· != .outside) then s.refuse t.label t.tag
  else s.openUp t

/-- Whether a tag owns the open lock (R17). -/
def State.ownsLock (s : State) (tag : Tag) : Bool :=
  match s.path.lock with
  | some l => l.owner == tag
  | none => false

/-- A LOCKED READ is taken; the owner's second one is refused (R17). -/
def State.takeLockedRead (s : State) (label : Label) (tag : Tag) (addr : Word) (count : Nat) : State :=
  if !crossesBlock addr count && (s.classes addr count).all (· == .outside) && s.ownsLock tag then s.refuse label tag
  else s.takeLocked (waitingTx label tag .lockedRead addr count [])

/-- A LOCKED WRITE is taken (R17, R18). -/
def State.takeLockedWrite (s : State) (label : Label) (tag : Tag) (addr : Word) (data : List WriteWord) : State :=
  s.takeLocked (waitingTx label tag .lockedWrite addr data.length data)

/-! ## Pass-through eligibility (R12, R13, R17) -/

def TxKind.isWrite : TxKind → Bool
  | .write => true
  | .lockedWrite => true
  | _ => false

/-- A watched write waits while an earlier-taken write of its requester is open (R12). -/
def heldBack (before : List UpTx) (t : UpTx) : Bool := t.watched && before.any fun u => u.tag == t.tag && u.kind.isWrite

/-- Whether a transaction has a request: it waits for forwarding, or a piece of it does (R13, R105). -/
def UpStage.requests : UpStage → Bool
  | .waiting => true
  | .redirected r => r.pieces.any fun p => p.stage == .waiting
  | _ => false

/-- Eligibility under the lock: only the owner's transactions, and no LOCKED READ, while a lock is open (R13, R17). -/
def eligibleUnder (lock : Option Lock) (t : UpTx) : Bool :=
  match lock with
  | none => true
  | some l => t.tag == l.owner && t.kind != .lockedRead

/-- The oldest eligible transaction (R13). -/
def oldestReady (lock : Option Lock) (before : List UpTx) : List UpTx → Option UpTx
  | [] => none
  | t :: ts =>
    if t.stage.requests && eligibleUnder lock t && !heldBack before t then some t
    else oldestReady lock (before ++ [t]) ts

def State.passRequest (s : State) : Option UpTx := oldestReady s.path.lock [] s.path.up

/-! ## Internal requests (R13, R16, R122, R150, R213) -/

/-- Whether an internal requester has a transaction ready. -/
def State.hasRequest (s : State) : Requester → Bool
  | .passThrough => s.passRequest.isSome
  | .pointerWriter => !s.path.pointer.isEmpty && !s.anyOpen Issuer.isPointer
  | .copier =>
    match s.dist.copier with
    | some w => !w.phase.isOpen
    | none => false
  | .submissionFetch =>
    match s.subm.fetch with
    | some f => !f.issued
    | none => false
  | .reportPublisher =>
    match s.rep.pubWrite with
    | some w => !w.issued
    | none => false

/-- The requesters in table order (section 1.4). -/
def requesters : List Requester := [.passThrough, .pointerWriter, .copier, .submissionFetch, .reportPublisher]

def internals : List Requester := [.pointerWriter, .copier, .submissionFetch, .reportPublisher]

/-- The five requesters from the one after the turn, wrapping (R14, R15). -/
def afterTurn : Requester → List Requester
  | .passThrough => [.pointerWriter, .copier, .submissionFetch, .reportPublisher, .passThrough]
  | .pointerWriter => [.copier, .submissionFetch, .reportPublisher, .passThrough, .pointerWriter]
  | .copier => [.submissionFetch, .reportPublisher, .passThrough, .pointerWriter, .copier]
  | .submissionFetch => [.reportPublisher, .passThrough, .pointerWriter, .copier, .submissionFetch]
  | .reportPublisher => [.passThrough, .pointerWriter, .copier, .submissionFetch, .reportPublisher]

/-- Whether some internal requester has a request (R14; log entry 14). -/
def State.internalWaits (s : State) : Bool := internals.any s.hasRequest

/-- A requester that may be granted: internal ones are not eligible while a lock is open (R13). -/
def State.mayGrant (s : State) (r : Requester) : Bool :=
  s.hasRequest r && (r == .passThrough || s.path.lock.isNone)

/-- The internal requester found by the search from the turn, skipping pass-through (R14). -/
def State.internalChoice (s : State) : Option Requester :=
  (afterTurn s.path.turn).find? fun r => r != .passThrough && s.mayGrant r

/-- The requester a grant goes to (R14, R15). -/
def State.grantee (s : State) : Option Requester :=
  if s.prof.active.roundRobin then (afterTurn s.path.turn).find? s.mayGrant
  else if s.passRequest.isSome && !(s.path.streak == 8 && s.internalChoice.isSome) then some .passThrough
  else s.internalChoice

/-- Turn and streak after a grant (R14, R15). -/
def State.afterGrant (s : State) (r : Requester) (waited : Bool) : State :=
  if s.prof.active.roundRobin then { s with path := { s.path with turn := r } }
  else if r = .passThrough then { s with path := { s.path with streak := if waited then min 8 (s.path.streak + 1) else 0 } }
  else { s with path := { s.path with turn := r, streak := 0 } }

/-! ## Issue (R2, R16 to R19) -/

/-- A transaction issued under a downstream label, timed against the response limit in force (R2, R19). -/
def State.issue (s : State) (d : Label) (us : Nat) (kind : TxKind) (addr : Word) (count : Nat) (tag : Tag)
    (data : List WriteWord) (issuer : Issuer) : State :=
  s.setDown d (some { kind := kind, addr := addr, count := count, tag := tag, data := data, issuer := issuer, issuedAt := us,
                      limit := s.prof.active.responseLimit, timedOut := false })

/-- Write words with every byte enable set. -/
def wholeWords (ws : List Word) : List WriteWord := ws.map fun w => { data := w, enables := 0xF }

def State.setLock (s : State) (l : Option Lock) : State := { s with path := { s.path with lock := l } }

/-- The owner's waiting LOCKED READs are refused once its lock is open (R17; log entry 16). -/
def State.refuseSecond (s : State) (tag : Tag) : State :=
  (s.path.up.filter fun t => t.tag == tag && t.kind == .lockedRead && t.stage == .waiting).foldl
    (fun u t => (u.closeUp (errorResponse t.label t.tag)).bump .refused) s

/-- The lock over the grant of a forwarded transaction: a LOCKED READ opens it, the owner's write to the lock address closes it
(R17, R18). -/
def State.lockOver (s : State) (t : UpTx) (us : Nat) : State :=
  if t.kind = .lockedRead then
    (s.setLock (some { owner := t.tag, addr := t.addr, start := us, limit := s.prof.active.lockLimit })).refuseSecond t.tag
  else
    match s.path.lock with
    | some l => if t.kind.isWrite && t.tag == l.owner && t.addr == l.addr then s.setLock none else s
    | none => s

/-- The kind a forwarded transaction goes to memory with: a LOCKED WRITE goes as an ordinary WRITE (R2, R18). -/
def TxKind.downstream : TxKind → TxKind
  | .lockedWrite => .write
  | k => k

/-- A piece of a redirected read is issued; the second joins the requests once the first is granted (R105). -/
def State.issuePiece (s : State) (t : UpTx) (r : Redirect) (d : Label) (us : Nat) : State :=
  match r.pieces with
  | [] => s
  | p :: rest =>
    if p.stage = .waiting then
      (s.setStage t.label (.redirected { r with pieces := joinSecond ({ p with stage := .issued } :: rest) })).issue d us .read
        p.addr p.count t.tag [] (.piece t.label false)
    else
      match rest with
      | q :: _ =>
        (s.setStage t.label (.redirected { r with pieces := setPiece r.pieces true .issued })).issue d us .read
          q.addr q.count t.tag [] (.piece t.label true)
      | [] => s

/-- The pass-through request is issued (R2, R17, R18, R105). -/
def State.issuePass (s : State) (t : UpTx) (d : Label) (us : Nat) : State :=
  match t.stage with
  | .redirected r => s.issuePiece t r d us
  | _ => ((s.setStage t.label .issued).lockOver t us).issue d us t.kind.downstream t.addr t.count t.tag t.data (.forward t.label)

/-- A Pointer Writer target's address; none while its block is not placed (R16). -/
def State.targetAddr (s : State) : Target → Option Nat
  | .countWord o => s.prof.active.countBase.map (· + o)
  | .deliveryRecord slot => s.prof.active.deliveryRing.map (· + 16 * slot)
  | .completion addr => some addr
  | .eventWord => s.prof.active.reportBase

def State.setPointer (s : State) (l : List PointerEntry) : State := { s with path := { s.path with pointer := l } }

/-- As each Event Word write is issued, the after-issue set is emptied (R209). -/
def State.noteIssue (s : State) (t : Target) : State :=
  if t = .eventWord then s.modRep fun r => { r with afterIssue := 0 } else s

/-- The head entry is issued (R16); its block is placed. -/
def State.issuePointer (s : State) (e : PointerEntry) (rest : List PointerEntry) (addr : Nat) (d : Label) (us : Nat) : State :=
  ((s.setPointer rest).noteIssue e.target).issue d us .write (wordOf addr) e.value.length 0 (wholeWords e.value)
    (if e.target = .eventWord then .eventWord else .pointer)

/-- The Copier's next transaction is issued (R150). -/
def State.issueCopier (s : State) (w : Work) (d : Label) (us : Nat) : State :=
  match w.phase with
  | .toRead =>
    (s.modDist fun x => { x with copier := some { w with phase := .reading } }).issue d us .read (wordOf w.nextRead.1)
      w.nextRead.2 0 [] .copierRead
  | .toWrite chunk =>
    (s.modDist fun x => { x with copier := some { w with phase := .writing chunk.length } }).issue d us .write
      (wordOf (w.nextWrite chunk).1) (w.nextWrite chunk).2.length 0 (wholeWords (w.nextWrite chunk).2) .copierWrite
  | _ => s

/-- A record's fetch read is issued (R122). -/
def State.issueFetch (s : State) (f : Fetch) (d : Label) (us : Nat) : State :=
  (s.modSubm fun u => { u with fetch := some { f with issued := true } }).issue d us .read (wordOf f.slot) 3 0 [] .fetch

/-- A publication write is issued (R213). -/
def State.issuePublication (s : State) (w : PubWrite) (d : Label) (us : Nat) : State :=
  (s.modRep fun r => { r with pubWrite := some { w with issued := true } }).issue d us .write
    (wordOf (s.rep.pubBase + publicationOffset w.index)) w.data.length 0 (wholeWords w.data) .publisher

/-- A grant to a requester (R13). A Pointer Writer entry whose block is not placed leaves the list unwritten, and no grant is made
(R16; log entry 15). -/
def State.grantTo (s : State) (r : Requester) (d : Label) (us : Nat) : State :=
  let waited := s.internalWaits
  match r with
  | .passThrough =>
    match s.passRequest with
    | some t => (s.issuePass t d us).afterGrant r waited
    | none => s
  | .pointerWriter =>
    match s.path.pointer with
    | [] => s
    | e :: rest =>
      match s.targetAddr e.target with
      | some a => (s.issuePointer e rest a d us).afterGrant r waited
      | none => s.setPointer rest
  | .copier =>
    match s.dist.copier with
    | some w => (s.issueCopier w d us).afterGrant r waited
    | none => s
  | .submissionFetch =>
    match s.subm.fetch with
    | some f => (s.issueFetch f d us).afterGrant r waited
    | none => s
  | .reportPublisher =>
    match s.rep.pubWrite with
    | some w => (s.issuePublication w d us).afterGrant r waited
    | none => s

/-- The Path Arbiter's grant under a free label, outside the quiet period (R2, R13, R22). -/
def State.grant (s : State) (d : Label) (us : Nat) : State :=
  if s.path.quiet || (s.downTx d).isSome then s
  else
    match s.grantee with
    | some r => s.grantTo r d us
    | none => s

/-- The lock limit's expiry: the lock is broken (R18; log entry 3). -/
def State.breakLock (s : State) (us : Nat) : State :=
  match s.path.lock with
  | some l => if l.start + l.limit ≤ us then ((s.setLock none).bump .lockBreak).raise .lockBroken else s
  | none => s

end Sys2Proof.Machine
end

