-- ==== Sys2Proof/Config.lean ====
section
/-! DEFINITION. What the manual leaves open as a VALUE: the free values. Nothing in Lean can evaluate one. -/

namespace Sys2Proof

/-- The field number recorded with a rejection by OVERLAP. R200 names the field recorded for RANGE, LIVE_RING and PIN_CONFLICT
and none for OVERLAP, although it records a field at every rejection; so the number is free (log entry 9). -/
opaque Config.overlapRejectField : Nat → Half

end Sys2Proof
end

