-- ==== Sys2Proof/Machine/Profile.lean ====
section
/-! DEFINITION. The Profile Unit (R198 to R204): capture, commits, validation, application and request serials. -/

namespace Sys2Proof.Machine

def State.modProf (s : State) (f : ProfileUnit → ProfileUnit) : State := { s with prof := f s.prof }

/-! ## Range checks (R200 test 1, R3, R221) -/

def within (lo hi n : Nat) : Bool := lo ≤ n && n ≤ hi

/-- A base is unplaced, or aligned with an extent that ends at or below 0xFFFF_FFFF (R3, R200). The size is as the profile has it, in its
range or not (log entry 42). -/
def Image.baseOk (a : Image) (field align size : Nat) : Bool :=
  match a.base field with
  | none => true
  | some b => b % align == 0 && b + size ≤ 4294967296

/-- A base that a condition requires is placed (R200). -/
def Image.placedIf (a : Image) (c : Bool) (field : Nat) : Bool := !c || (a.base field).isSome

/-- The checks of the global fields, in rising field order (R221). The bases 12 and 14 are tested with the sizes of fields 13 and 15 even
where those are out of range (log entry 42). -/
def Image.globalChecks (a : Image) : List (Nat × Bool) :=
  [(1, within 0 15 (a.num 1) || a.num 1 == 255),
   (2, within 0 1 (a.num 2)),
   (3, within 1 2 (a.num 3)),
   (4, within 1 64 (a.num 4)),
   (5, within 0 2 (a.num 5)),
   (6, within 1 255 (a.num 6)),
   (7, within 0 65535 (a.num 7)),
   (8, a.baseOk 8 4096 reportSize && a.placedIf (a.reportMode != 0) 8),
   (9, a.baseOk 9 256 countSize && a.placedIf (allPairs.any a.enabled) 9),
   (10, a.baseOk 10 16 deliveryRingSize),
   (11, a.baseOk 11 4096 windowSize),
   (12, a.baseOk 12 16 (16 * a.submissionSize)),
   (13, within 8 256 (a.num 13)),
   (14, a.baseOk 14 1024 (1024 * a.poolSize) &&
     a.placedIf (allPairs.any fun p => a.enabled p && a.cellRequest p != 0) 14),
   (15, within 16 512 (a.num 15)),
   (16, within 1 250 (a.num 16)),
   (17, within 50 2000 (a.num 17)),
   (18, within 20 1000 (a.num 18)),
   (19, within 250 10000 (a.num 19)),
   (20, within 1 255 (a.num 20)),
   (21, within 0 255 (a.num 21)),
   (22, within 1 255 (a.num 22)),
   (23, within 100 5000 (a.num 23)),
   (24, within 100 10000 (a.num 24)),
   (25, within 10 600 (a.num 25)),
   (26, within 1 600 (a.num 26)),
   (27, within 10 10000 (a.num 27)),
   (28, within 1 255 (a.num 28)),
   (29, within 1 255 (a.num 29)),
   (30, within 0 1 (a.num 30)),
   (31, within 0 65535 (a.num 31)),
   (32, within 0 65535 (a.num 32)),
   (33, within 0 65535 (a.num 33))]

/-- The checks of a pair's fields, in rising field order (R221). The ring base is tested with the cell count even where that is out of
range (log entry 42). -/
def Image.pairChecks (a : Image) (p : Pair) : List (Nat × Bool) :=
  let n := fun k => a.num (Image.pairField p k)
  [(Image.pairField p 0, within 0 1 (n 0)),
   (Image.pairField p 1, within 0 15 (n 1)),
   (Image.pairField p 2, a.baseOk (Image.pairField p 2) 1024 (1024 * n 3) && a.placedIf (a.enabled p) (Image.pairField p 2)),
   (Image.pairField p 3, within 8 128 (n 3)),
   (Image.pairField p 4, within 0 128 (n 4)),
   (Image.pairField p 5, within 1 255 (n 5)),
   (Image.pairField p 6, within 64 1016 (n 6) && n 6 % 4 == 0),
   (Image.pairField p 7, within 0 7 (n 7) || n 7 == 255),
   (Image.pairField p 8, within 1 2 (n 8)),
   (Image.pairField p 9, within 0 1 (n 9)),
   (Image.pairField p 10, within 0 65535 (n 10))]

/-- The lowest-numbered field that fails its range (R200). -/
def Image.rangeFault (a : Image) : Option Nat :=
  ((a.globalChecks ++ allPairs.flatMap a.pairChecks).find? fun x => !x.2).map Prod.fst

/-! ## The other tests (R200 tests 2 to 4) -/

/-- Whether some two extents of a list overlap. -/
def anyOverlap : List Extent → Bool
  | [] => false
  | x :: xs => xs.any x.overlaps || anyOverlap xs

def State.overlapFault (s : State) (a : Image) : Bool := anyOverlap (profileExtent s.pins.straps :: a.apertures)

/-- A pair whose ring may not change: not OUT, DRAINING, or with a HELD receive cell (R200). -/
def PairRec.live (r : PairRec) : Bool := r.state != .out || r.reason == .draining || r.hasHeld

/-- The tag, ring base and cell count fields of the live pairs, each with whether it is unchanged (R200). -/
def State.liveChecks (s : State) (a : Image) : List (Nat × Bool) :=
  allPairs.flatMap fun p =>
    [1, 2, 3].map fun k =>
      (Image.pairField p k, !(s.pair p).live || a.word (Image.pairField p k) == s.prof.active.word (Image.pairField p k))

def State.liveFault (s : State) (a : Image) : Option Nat := ((s.liveChecks a).find? fun x => !x.2).map Prod.fst

/-- The pin field of the lowest pair that is pinned to the lane of a pair before it (R200, section 11.6). -/
def Image.pinFault (a : Image) : Option Nat :=
  (allPairs.find? fun p => (a.pin p).isSome && allPairs.any fun q => q.val < p.val && a.pin q == a.pin p).map fun p =>
    Image.pairField p 7

/-- What validation decides (R200). -/
inductive Verdict where
  | accept
  | range (field : Nat)
  | overlap
  | liveRing (field : Nat)
  | pinConflict (field : Nat)
deriving DecidableEq, Repr

/-- Validation: the first test that fails decides (R200). -/
def State.validate (s : State) (a : Image) : Verdict :=
  match a.rangeFault with
  | some f => .range f
  | none =>
    if s.overlapFault a then .overlap
    else
      match s.liveFault a with
      | some f => .liveRing f
      | none =>
        match a.pinFault with
        | some f => .pinConflict f
        | none => .accept

/-! ## Rejection (R200) -/

def State.reject (s : State) (serial : Half) (code : RejectCode) (field : Half) : State :=
  ((s.modProf fun u => { u with lastRejected := some serial, rejectCode := code, rejectField := field }).raise
    .profileRejected).bump .rejected

/-- A rejection by OVERLAP: R200 names no field for it, so the field recorded is a free value (log entry 9). -/
def State.rejectOverlap (s : State) (serial : Half) : State :=
  { (s.reject serial .overlap (Config.overlapRejectField s.freeIndex)) with freeIndex := s.freeIndex + 1 }

/-! ## Acceptance (R201, R202) -/

/-- Whether an application is a recompute occasion, as the Pair Table stands before it (R202). -/
def State.isOccasion (s : State) : Bool := s.prof.lastApplied.isNone || allPairs.all fun p => (s.pair p).state == .out

/-- The pending profile becomes the active profile; PROFILE_APPLIED is raised and APPLIED counted (R201). -/
def State.adopt (s : State) (serial : Half) : State :=
  ((s.modProf fun u => { u with active := u.image, lastApplied := some serial }).raise .profileApplied).bump .applied

/-- A change of arbitration mode sets the streak to 0 (R13). -/
def State.arbitrationChange (s : State) (old : Image) : State :=
  if s.prof.active.roundRobin = old.roundRobin then s else { s with path := { s.path with streak := 0 } }

/-- A changed ring's Cell Map is rebuilt (R29, R45). -/
def State.ringChange (old : Image) (s : State) (p : Pair) : State :=
  if s.prof.active.ringBase p = old.ringBase p ∧ s.prof.active.ringCells p = old.ringCells p then s
  else s.buildRing p (s.prof.active.ringSize p)

/-- A pair's release count, while its ring is set (R30). -/
def State.postRelease (s : State) (p : Pair) : State :=
  if (s.pair p).cells.isEmpty then s else s.postCount (releaseOffset p) (s.pair p).released

/-- The postings of an application that first places the Count Block or changes its base (R30, R99, R142). -/
def State.countBlockChange (s : State) (old : Image) : State :=
  if s.prof.active.countBase.isSome ∧ s.prof.active.countBase ≠ old.countBase then
    (s.postDeliveryCounts.forPairs State.postRelease).postTransmitWords
  else s

/-- The postings of an application that first places the Delivery Ring or changes its base (R99). -/
def State.deliveryRingChange (s : State) (old : Image) : State :=
  if s.prof.active.deliveryRing.isSome ∧ s.prof.active.deliveryRing ≠ old.deliveryRing then s.postDeliveryRing else s

def State.submissionRingChange (s : State) (old : Image) : State :=
  if s.prof.active.submissionRing = old.submissionRing then s else s.ringChanged

/-- The disables, then the enables, of an application, in pair order (R166, R167; log entry 22). -/
def State.applyEnables (s : State) : State :=
  (s.forPairs fun t p => if t.prof.active.enabled p then t else t.disable p).forPairs fun t p =>
    if t.prof.active.enabled p then t.enable p else t

/-- Events and attention after an application: ATTN_N from the new enables, and the Event Word posted on a change of the enables or
when the Report Block is placed or moved (R201, R208, R209). -/
def State.eventChange (s : State) (old : Image) : State :=
  let t := s.refreshAttn
  if s.prof.active.eventEnables ≠ old.eventEnables ∨
      (s.prof.active.reportBase.isSome ∧ s.prof.active.reportBase ≠ old.reportBase) then t.postEventWord
  else t

/-! ## BOND RESTART and request serials (R203) -/

/-- The peer acceptance map and receive view are cleared (R184). -/
def State.clearPeer (s : State) : State :=
  { s with sup := { s.sup with peerMap := 0, peerValid := false, peerGeneration := 0, peerHead := 0 } }

/-- BOND RESTART (R69, R133, R160, R184). -/
def State.bondRestart (s : State) : State :=
  (((s.bondClear.abortWaiting.transmitRestart).recompute).clearPeer.recheckWork).bump .bondRestart

def State.passBond (s : State) : State :=
  let n := s.prof.active.bondSerial
  if n = s.prof.actedBond then s else (s.modProf fun u => { u with actedBond := n }).bondRestart

def State.passAck (s : State) : State :=
  let n := s.prof.active.ackSerial
  if n = s.prof.actedAck then s else (s.modProf fun u => { u with actedAck := n }).acknowledge

def State.passOneShot (s : State) : State :=
  let n := s.prof.active.oneShotSerial
  if n = s.prof.actedOneShot then s else (s.modProf fun u => { u with actedOneShot := n }).oneShot

/-- A changed injection-once serial sets the pair's pending flag (R196, R203). -/
def State.passInject (s : State) (p : Pair) : State :=
  let n := s.prof.active.injectSerial p
  if n = s.prof.actedInject[p.val] then s
  else (s.modProf fun u => { u with actedInject := u.actedInject.set p.val n }).modPair p fun r => { r with injectOnce := true }

/-- Each changed request serial is passed once to its owner (R203). -/
def State.passRequests (s : State) : State := s.passBond.passAck.passOneShot.forPairs State.passInject

/-! ## The application (R200, R201) -/

/-- What an accepted application tells every block, in the model's order (R201; log entry 22). -/
def State.tellBlocks (s : State) (old : Image) (occasion : Bool) (lanes : List (Option (Fin 8))) : State :=
  let rings := (s.arbitrationChange old).forPairs (State.ringChange old)
  let pinned := rings.applyPins
  let posted := (pinned.countBlockChange old).deliveryRingChange old
  let timed := (posted.capCredits.aim).submissionRingChange old
  let shared := if occasion then timed.recompute else timed
  let stopped := shared.recomputeStop
  let started := (stopped.applyEnables.recheckLanes lanes).recheckWork
  (started.reportModeChange old.reportMode).eventChange old

/-- An accepted commit (R201, R202, R203). -/
def State.accept (s : State) (serial : Half) : State :=
  ((s.adopt serial).tellBlocks s.prof.active s.isOccasion s.lanes).passRequests

/-- The application of a commit (R200). -/
def State.applyCommit (s : State) (serial : Half) : State :=
  match s.validate s.prof.image with
  | .accept => s.accept serial
  | .range f => s.reject serial .range (halfOf f)
  | .overlap => s.rejectOverlap serial
  | .liveRing f => s.reject serial .liveRing (halfOf f)
  | .pinConflict f => s.reject serial .pinConflict (halfOf f)

/-! ## Capture and commits (R198, R199) -/

/-- A waiting commit is replaced (R199). -/
def State.replaceWaiting (s : State) : State :=
  if s.prof.waiting.isSome then (s.modProf fun u => { u with waiting := none }).bump .commitReplaced else s

/-- A captured commit word makes a commit (R199). -/
def State.commit (s : State) (w : Word) : State :=
  let t := s.replaceWaiting
  let serial := highHalf w
  let mode := byteOf w 2
  if mode = 1 then t.applyCommit serial
  else if mode = 2 then t.modProf fun u => { u with waiting := some serial }
  else t.reject serial .range 0

/-- The words of a captured write replace the image's words; the commit word then makes its commit (R198, R199; log entry 11). -/
def State.capture (s : State) (words : List (Nat × Word)) : State :=
  let t := s.modProf fun u => { u with image := words.foldl (fun a x => a.setField x.1 x.2) u.image }
  match words.find? fun x => x.1 == 0 with
  | some x => t.commit x.2
  | none => t

/-- An epoch boundary: the next one is set with the active epoch length, and a waiting commit is applied (R206). -/
def State.epoch (s : State) : State :=
  let t : State := { s with clock := { s.clock with epochCount := s.clock.epochCount + 1,
                                                    nextEpoch := s.clock.nextEpoch + s.prof.active.epochLength } }
  match s.prof.waiting with
  | some serial => (t.modProf fun u => { u with waiting := none }).applyCommit serial
  | none => t

end Sys2Proof.Machine
end

