-- ==== Sys2Proof/Machine/Answers.lean ====
section
/-! DEFINITION. Answers from memory and their failures (R2, R11, R16, R19, R20): what each issuer does with them. -/

namespace Sys2Proof.Machine

/-! ## Hand-on of a watched write (R11) -/

/-- A write is acted on by its owning block (R11). -/
def State.handOn (s : State) : HandOn → State
  | .capture words => s.capture words
  | .submissionProducer v => s.takeProducer v
  | .deliveryConsumer v => s.takeConsumer v
  | .transmitConsumer p v => s.takeTxConsumer p v
  | .ringWrite p cls cell offset words => s.ringArrival p cls cell offset words

/-! ## OK answers -/

/-- A forwarded transaction answered OK: the answer goes upstream, and a watched write or Event Word data is handed on (R2, R8, R11,
R210). -/
def State.forwardOk (s : State) (label : Label) (data : List Word) : State :=
  match s.upTx label with
  | none => s
  | some t =>
    if t.kind.isWrite then t.handOn.foldl State.handOn (s.closeUp (okResponse t.label t.tag []))
    else
      let u := s.closeUp (okResponse t.label t.tag data)
      if t.eventRead then u.clearOnRead (highHalf (data.getD 0 0)) else u

/-- The repost mark: when the Event Word write ends, the Event Word is posted again (R209). -/
def State.eventWordEnd (s : State) : State :=
  if s.rep.repost then (s.modRep fun r => { r with repost := false }).postEventWord else s

/-- An Event Word write answered OK: the fresh set becomes the after-issue set (R209). -/
def State.eventWordOk (s : State) : State := (s.modRep fun r => { r with fresh := r.afterIssue }).eventWordEnd

/-- The words of a Copier write. -/
def Phase.written : Phase → Nat
  | .writing n => n
  | _ => 0

/-- A fetched record of three words (R218). -/
def recordOf (data : List Word) : SubmissionRecord := parseSubmission (data.getD 0 0) (data.getD 1 0) (data.getD 2 0)

/-- An OK answer passed to whatever the transaction was issued for (R2). -/
def State.succeed (s : State) (t : DownTx) (data : List Word) : State :=
  match t.issuer with
  | .forward label => s.forwardOk label data
  | .piece label second => s.pieceEnded label second (some data)
  | .pointer => s
  | .eventWord => s.eventWordOk
  | .copierRead =>
    match s.dist.copier with
    | some w => s.copierReadOk w data
    | none => s
  | .copierWrite =>
    match s.dist.copier with
    | some w => s.copierWriteOk w w.phase.written
    | none => s
  | .fetch =>
    match s.subm.fetch with
    | some f => s.fetched f (recordOf data)
    | none => s
  | .publisher => s.publicationAnswered true

/-! ## Failures (R19, R20) -/

/-- A LOCKED READ that fails closes the lock it opened (R17; log entry 17). -/
def State.closeOpened (s : State) (t : DownTx) : State :=
  match s.path.lock with
  | some l =>
    if t.kind = .lockedRead ∧ l.owner = t.tag ∧ l.addr = t.addr ∧ l.start = t.issuedAt then s.setLock none else s
  | none => s

/-- A forwarded transaction that fails is answered ERROR upstream and acted on by no block (R11, R17, R19). -/
def State.forwardFailed (s : State) (t : DownTx) (label : Label) : State :=
  match s.upTx label with
  | some u => (s.closeOpened t).closeUp (errorResponse u.label u.tag)
  | none => s

/-- A failure passed to whatever the transaction was issued for (R19). -/
def State.failTo (s : State) (t : DownTx) : State :=
  match t.issuer with
  | .forward label => s.forwardFailed t label
  | .piece label second => s.pieceEnded label second none
  | .pointer => s
  | .eventWord => s.eventWordEnd
  | .copierRead =>
    match s.dist.copier with
    | some w => s.copierFailed w
    | none => s
  | .copierWrite =>
    match s.dist.copier with
    | some w => s.copierFailed w
    | none => s
  | .fetch =>
    match s.subm.fetch with
    | some f => s.fetchFailed f
    | none => s
  | .publisher => s.publicationAnswered false

/-- PATH_FAULT raised; for an Event Word write without a posting of its own (R209). -/
def State.pathFault (s : State) (t : DownTx) : State :=
  if t.issuer = .eventWord then s.setEvent .pathFault else s.raise .pathFault

/-- Memory answers ERROR: the label is released and the failure passed on (R20). -/
def State.memoryError (s : State) (d : Label) (t : DownTx) : State :=
  ((((s.setDown d none).bump .memoryError).pathFault t)).failTo t

/-- The response limit ends a transaction: its label stays in use, and the failure is passed on (R19). -/
def State.timeOut (s : State) (d : Label) (t : DownTx) : State :=
  ((((s.setDown d (some { t with timedOut := true })).bump .pathTimeout).pathFault t)).failTo t

/-- An answer for a label not in use, or for a timed-out transaction: discarded, counted, the label released (R2, R19). -/
def State.lateAnswer (s : State) (d : Label) : State := (s.setDown d none).bump .lateAnswer

/-! ## The answer rows -/

/-- Whether an OK answer carries one word for each word of a read (Conventions, "Transactions"; log entry 34). -/
def DownTx.fits (t : DownTx) (data : List Word) : Bool :=
  match t.kind with
  | .read => data.length == t.count
  | .lockedRead => data.length == t.count
  | _ => true

/-- Memory's answer to an open transaction (R2, R20). -/
def State.answerOpen (s : State) (d : Label) (t : DownTx) (a : Answer) : Host.Outcome State Fault Refusal :=
  match a with
  | .error => .next (s.memoryError d t)
  | .ok data => if t.fits data then .next ((s.setDown d none).succeed t data) else .fault .malformedAnswer

/-- Memory's answer under a label, for the rows whose issuers are accepted: nothing while RESET_N is low or in the quiet period
(R22), a late answer for a label not in use or timed out (R2, R19), and nothing for another row's issuer (log entry 1). -/
def State.answer (s : State) (accepts : Issuer → Bool) (d : Label) (a : Answer) : Host.Outcome State Fault Refusal :=
  if !s.pins.resetN || s.path.quiet then .next s
  else
    match s.downTx d with
    | none => .next (s.lateAnswer d)
    | some t =>
      if t.timedOut then .next (s.lateAnswer d)
      else if accepts t.issuer then s.answerOpen d t a
      else .next s

def Issuer.isForward : Issuer → Bool
  | .forward _ => true
  | _ => false

def Issuer.isPiece : Issuer → Bool
  | .piece _ _ => true
  | _ => false

/-- The expiry of the response limit under a label (R19; log entry 3). -/
def State.limitExpiry (s : State) (d : Label) (us : Nat) : State :=
  match s.downTx d with
  | some t => if !t.timedOut && t.issuedAt + t.limit ≤ us then s.timeOut d t else s
  | none => s

/-- The row LATE_ANSWER: it discards an answer for a label not in use or timed out (R2, R19). -/
def State.discardLate (s : State) (d : Label) : State :=
  if s.path.quiet then s
  else
    match s.downTx d with
    | none => s.lateAnswer d
    | some t => if t.timedOut then s.lateAnswer d else s

/-! ## Reset (R22) -/

/-- FULL RESET: every block takes its reset values and RESET_N is low. The straps and SURGE_N are inputs; the responses already
returned and the command queue are not part of the BX8 (R22; log entries 5 to 7). -/
def State.fullReset (s : State) : State :=
  { State.reset with
    pins := { State.reset.pins with resetN := false, surgeN := s.pins.surgeN, straps := s.pins.straps }
    responses := s.responses, freeIndex := s.freeIndex, pending := s.pending }

/-- RESET_N returns high: the quiet period starts, and a SURGE_N that is low is taken as a falling edge (R22, R189). -/
def State.release (s : State) (us : Nat) : State :=
  let t : State := { s with pins := { s.pins with resetN := true }, path := { s.path with quiet := true, quietFrom := us } }
  if s.pins.surgeN then t else t.surgeLatch

/-- The quiet period ends once 32 µs have passed (R22). -/
def State.quietEnd (s : State) (us : Nat) : State :=
  if s.path.quiet && s.path.quietFrom + 32 ≤ us then { s with path := { s.path with quiet := false } } else s

end Sys2Proof.Machine
end

