-- ==== Sys2Proof/WellFormed.lean ====
section
/-! DEFINITION. Which commands the link can carry: the operand conditions of the manual's Conventions. -/

namespace Sys2Proof

/-- A transaction's address is a word address and its word count lies in 1..16 (Conventions, "Transactions"). -/
def transactionOk (addr : Word) (words : Nat) : Bool :=
  addr.toNat % 4 == 0 && 1 ≤ words && words ≤ 16

/-- An answer carries the data of at most one transaction, 16 words. -/
def Answer.sizeOk : Answer → Bool
  | .ok data => data.length ≤ 16
  | .error => true

/-- The check on a command's operands. -/
def Instr.wellFormed : Instr → Bool
  | .read _ _ addr words => transactionOk addr words
  | .write _ _ addr data => transactionOk addr data.length
  | .lockedRead _ _ addr words => transactionOk addr words
  | .lockedWrite _ _ addr data => transactionOk addr data.length
  | .memoryAnswer _ a => a.sizeOk
  | .pieceEnd _ a => a.sizeOk
  | .fetchAnswer _ a => a.sizeOk
  | .copierReadAnswer _ a => a.sizeOk
  | .copierWriteAnswer _ a => a.sizeOk
  | .pointerWriteAnswer _ a => a.sizeOk
  | .eventWordWriteAnswer _ a => a.sizeOk
  | .publicationWriteAnswer _ a => a.sizeOk
  | .arbiterGrant _ _ => true
  | .lockLimitExpiry _ => true
  | .responseLimitExpiry _ _ => true
  | .lateAnswer _ => true
  | .fullReset => true
  | .resetRelease _ => true
  | .quietAnswerDiscard _ => true
  | .downstreamQuietEnd _ => true
  | .roomNotice => true
  | .skewTimerExpiry => true
  | .fetchOffer => true
  | .frameSelection => true
  | .ageExpiry _ => true
  | .stallExpiry => true
  | .frameReleased => true
  | .submissionRingTakeIntoUse => true
  | .recomputeTakeIntoUse => true
  | .dataPlacement => true
  | .replaced => true
  | .statusPlacement => true
  | .provePlacement => true
  | .statusTimerExpiry _ => true
  | .drainedPairStart _ => true
  | .provingPeriodEnd _ => true
  | .retryHoldoffExpiry _ => true
  | .silenceExpiry _ => true
  | .lossHoldoffExpiry _ => true
  | .penaltyEnd _ => true
  | .quarantineFactorReset _ => true
  | .surgeFallingEdge => true
  | .surgeRisingEdge => true
  | .epochBoundary => true
  | .referenceAcquired => true
  | .referenceLost => true
  | .reportTimerExpiry => true
  | .publicationStart => true
  | .heldReadRelease => true
  | .millisecondTick => true

end Sys2Proof
end

