-- ==== Sys2Proof/Machine/PathCommands.lean ====
section
/-! DEFINITION. The meanings of the Memory Path's commands: the four transaction kinds, the grant, the link limits, forwarded
answers and the resets of the path. -/

namespace Sys2Proof.Machine

/-- READ (R1, R8, R9): taken when there is room and the label is free, else it stays on the link (log entry 1). -/
def execRead (label : Label) (tag : Tag) (addr : Word) (words : Nat) (s : State) : Host.Outcome State Fault Refusal :=
  if transactionOk addr words then
    .next (s.whenUp fun t => t.whenever (t.canTake label) fun u => u.takeRead label tag addr words)
  else .refused .malformedTransaction

/-- WRITE (R1, R4 to R10). -/
def execWrite (label : Label) (tag : Tag) (addr : Word) (data : List WriteWord) (s : State) : Host.Outcome State Fault Refusal :=
  if transactionOk addr data.length then
    .next (s.whenUp fun t => t.whenever (t.canTake label) fun u => u.takeWrite label tag addr data)
  else .refused .malformedTransaction

/-- LOCKED_READ (R17). -/
def execLockedRead (label : Label) (tag : Tag) (addr : Word) (words : Nat) (s : State) : Host.Outcome State Fault Refusal :=
  if transactionOk addr words then
    .next (s.whenUp fun t => t.whenever (t.canTake label) fun u => u.takeLockedRead label tag addr words)
  else .refused .malformedTransaction

/-- LOCKED_WRITE (R17, R18). -/
def execLockedWrite (label : Label) (tag : Tag) (addr : Word) (data : List WriteWord) (s : State) :
    Host.Outcome State Fault Refusal :=
  if transactionOk addr data.length then
    .next (s.whenUp fun t => t.whenever (t.canTake label) fun u => u.takeLockedWrite label tag addr data)
  else .refused .malformedTransaction

/-- ARBITER_GRANT (R13 to R18): under a downstream label, at a microsecond reading (log entries 3 and 8). -/
def execArbiterGrant (down : Label) (us : Nat) (s : State) : Host.Outcome State Fault Refusal :=
  .next (s.whenUp fun t => t.grant down us)

/-- LOCK_LIMIT_EXPIRY (R18). -/
def execLockLimitExpiry (us : Nat) (s : State) : Host.Outcome State Fault Refusal :=
  .next (s.whenUp fun t => t.breakLock us)

/-- MEMORY_ANSWER (R2, R11, R20): memory answers a forwarded transaction. -/
def execMemoryAnswer (down : Label) (answer : Answer) (s : State) : Host.Outcome State Fault Refusal :=
  s.answer Issuer.isForward down answer

/-- RESPONSE_LIMIT_EXPIRY (R19). -/
def execResponseLimitExpiry (down : Label) (us : Nat) (s : State) : Host.Outcome State Fault Refusal :=
  .next (s.whenUp fun t => t.limitExpiry down us)

/-- LATE_ANSWER (R2, R19). -/
def execLateAnswer (down : Label) (s : State) : Host.Outcome State Fault Refusal :=
  .next (s.whenUp fun t => t.discardLate down)

/-- FULL_RESET (R22 and every chapter's reset rule). -/
def execFullReset (s : State) : Host.Outcome State Fault Refusal := .next s.fullReset

/-- RESET_RELEASE (R22, R189, R205): it happens only while RESET_N is low. -/
def execResetRelease (us : Nat) (s : State) : Host.Outcome State Fault Refusal :=
  .next (s.whenever (!s.pins.resetN) fun t => t.release us)

/-- QUIET_ANSWER_DISCARD (R22): an answer in the quiet period is discarded without being counted, so the state is unchanged; outside
the quiet period the step does not happen (log entry 1). -/
def execQuietAnswerDiscard (_down : Label) (s : State) : Host.Outcome State Fault Refusal := .next s

/-- DOWNSTREAM_QUIET_END (R22). -/
def execDownstreamQuietEnd (us : Nat) (s : State) : Host.Outcome State Fault Refusal :=
  .next (s.whenUp fun t => t.quietEnd us)

end Sys2Proof.Machine
end

