-- ==== Sys2Proof/Machine/ReceiveCommands.lean ====
section
/-! DEFINITION. The meanings of the receive side's own commands: the room notice, the skew timer and the ends of pieces. -/

namespace Sys2Proof.Machine

/-- A room notice is taken: head processing runs (R65, R111; log entry 25). -/
def State.takeRoom (s : State) : State :=
  State.settle { s with deliv := { s.deliv with roomNotices := s.deliv.roomNotices - 1 } }

/-- The skew timer's expiry, when its deadline is reached (R76, R77). -/
def State.skewDue (s : State) : State :=
  match s.reseq.skew with
  | some k => if reached s.now k.deadline then s.skewExpire k else s
  | none => s

/-- ROOM_NOTICE (R65). -/
def execRoomNotice (s : State) : Host.Outcome State Fault Refusal :=
  .next (s.whenUp fun t => t.whenever (t.deliv.roomNotices != 0) State.takeRoom)

/-- SKEW_TIMER_EXPIRY (R76, R77). -/
def execSkewTimerExpiry (s : State) : Host.Outcome State Fault Refusal := .next (s.whenUp State.skewDue)

/-- PIECE_END (R106 to R108): memory answers a piece of a redirected read. -/
def execPieceEnd (down : Label) (answer : Answer) (s : State) : Host.Outcome State Fault Refusal :=
  s.answer Issuer.isPiece down answer

end Sys2Proof.Machine
end

