-- ==== Sys2Proof/Machine/ReportCommands.lean ====
section
/-! DEFINITION. The meanings of the commands of the Profile Unit, the Timebase, the Pointer Writer and the Report Unit (R16, R205 to
R214). -/

namespace Sys2Proof.Machine

/-- The clock source changes, with CLOCK_FALLBACK and CLOCK_SWITCH (R207). -/
def State.switchClock (s : State) (c : ClockSource) : State :=
  (State.raise { s with clock := { s.clock with source := c } } .clockFallback).bump .clockSwitch

/-- The report timer's expiry: it starts again, from the time the expiry is taken (log entry 40), and makes a cause (R211). -/
def State.reportTimerDue (s : State) : State :=
  if s.due s.rep.timer then
    (s.modRep fun r => { r with timer := some (s.now + s.prof.active.reportInterval) }).publicationCause
  else s

/-- A DUE publication starts once no publication-range read is open (R212). -/
def State.startDue (s : State) : State :=
  if s.rep.pubState = .due ∧ !s.rangeOpen then s.startPublication else s

/-- The held reads are released at a publication's end, and the publication state moves on (R213; log entry 26). -/
def State.releaseAtEnd (s : State) : State := if s.rep.ended then s.releaseHeld.afterPublication else s

/-- A millisecond of the Timebase (R205). -/
def State.tick (s : State) : State := { s with clock := { s.clock with time := s.clock.time + 1 } }

def Issuer.isPlainPointer : Issuer → Bool
  | .pointer => true
  | _ => false

def Issuer.isPublisher : Issuer → Bool
  | .publisher => true
  | _ => false

/-- EPOCH_BOUNDARY (R206). -/
def execEpochBoundary (s : State) : Host.Outcome State Fault Refusal :=
  .next (s.whenUp fun t => t.whenever (reached t.now t.clock.nextEpoch) State.epoch)

/-- REFERENCE_ACQUIRED (R207): while the source is INTERNAL. -/
def execReferenceAcquired (s : State) : Host.Outcome State Fault Refusal :=
  .next (s.whenUp fun t => t.whenever (t.clock.source == .internal) fun u => u.switchClock .reference)

/-- REFERENCE_LOST (R207): while the source is REFERENCE. -/
def execReferenceLost (s : State) : Host.Outcome State Fault Refusal :=
  .next (s.whenUp fun t => t.whenever (t.clock.source == .reference) fun u => u.switchClock .internal)

/-- POINTER_WRITE_ANSWER (R16). -/
def execPointerWriteAnswer (down : Label) (answer : Answer) (s : State) : Host.Outcome State Fault Refusal :=
  s.answer Issuer.isPlainPointer down answer

/-- EVENT_WORD_WRITE_ANSWER (R209). -/
def execEventWordWriteAnswer (down : Label) (answer : Answer) (s : State) : Host.Outcome State Fault Refusal :=
  s.answer Issuer.isEventWord down answer

/-- REPORT_TIMER_EXPIRY (R211). -/
def execReportTimerExpiry (s : State) : Host.Outcome State Fault Refusal := .next (s.whenUp State.reportTimerDue)

/-- PUBLICATION_START (R212). -/
def execPublicationStart (s : State) : Host.Outcome State Fault Refusal := .next (s.whenUp State.startDue)

/-- PUBLICATION_WRITE_ANSWER (R213, R214). -/
def execPublicationWriteAnswer (down : Label) (answer : Answer) (s : State) : Host.Outcome State Fault Refusal :=
  s.answer Issuer.isPublisher down answer

/-- HELD_READ_RELEASE (R213). -/
def execHeldReadRelease (s : State) : Host.Outcome State Fault Refusal := .next (s.whenUp State.releaseAtEnd)

/-- MILLISECOND_TICK (R205). -/
def execMillisecondTick (s : State) : Host.Outcome State Fault Refusal := .next (s.whenUp State.tick)

end Sys2Proof.Machine
end

