-- ==== Sys2Proof/Machine/TransmitCommands.lean ====
section
/-! DEFINITION. The meanings of the transmit side's commands: fetching, selection, expiries, placements and the Copier's answers. -/

namespace Sys2Proof.Machine

/-- A frame selected for the Distributor's open request (R126, R146). -/
def State.selectNext (s : State) : State :=
  if s.dist.frame.isSome || s.dist.dropping then s
  else
    match s.subm.select with
    | some e => s.selectFrame e
    | none => s

/-- The stall expiry of the frame being cut; one already being released keeps its status (R129). -/
def State.stallDue (s : State) : State :=
  match s.subm.cuttingEntry with
  | some e => if s.due (s.stallDeadline e) then s.releaseFrame .stalled else s
  | none => s

/-- A released frame is reported released and completes with the status of its release (R129, R155). -/
def State.reportReleased (s : State) : State :=
  match s.dist.frame with
  | some f => if s.frameReleasable then s.closeFrame f.number (s.releaseStatus f.number) else s
  | none => s

/-- A pending target is taken into use once the test passes (R139). -/
def State.takePending (s : State) : State :=
  match s.dist.target with
  | some t => if s.targetReady then s.takeTarget t else s
  | none => s

/-- The Copier's next work, when it is a new fragment (R148, R149). -/
def State.dataStep (s : State) : State :=
  match s.nextWork with
  | .data c => s.placeNew c
  | _ => s

/-- The Copier's next work, when it is the fragment to re-place (R149, R153). -/
def State.replaceStep (s : State) : State :=
  match s.nextWork with
  | .replace c => s.placeOld c
  | _ => s

/-- The Copier's next work, when it is a STATUS (R149, R157). -/
def State.statusStep (s : State) : State :=
  match s.nextWork with
  | .status p => s.placeStatus p
  | _ => s

/-- The Copier's next work, when it is a PROVE (R149, R158). -/
def State.proveStep (s : State) : State :=
  match s.nextWork with
  | .prove p => s.placeProve p
  | _ => s

def Issuer.isFetch : Issuer → Bool
  | .fetch => true
  | _ => false

def Issuer.isCopierRead : Issuer → Bool
  | .copierRead => true
  | _ => false

def Issuer.isCopierWrite : Issuer → Bool
  | .copierWrite => true
  | _ => false

/-- FETCH_OFFER (R122). -/
def execFetchOffer (s : State) : Host.Outcome State Fault Refusal :=
  .next (s.whenUp fun t => t.whenever t.subm.canFetch State.offerFetch)

/-- FETCH_ANSWER (R123, R124). -/
def execFetchAnswer (down : Label) (answer : Answer) (s : State) : Host.Outcome State Fault Refusal :=
  s.answer Issuer.isFetch down answer

/-- FRAME_SELECTION (R126). -/
def execFrameSelection (s : State) : Host.Outcome State Fault Refusal := .next (s.whenUp State.selectNext)

/-- AGE_EXPIRY of a submission (R127). -/
def execAgeExpiry (number : Half) (s : State) : Host.Outcome State Fault Refusal := .next (s.whenUp fun t => t.expireAge number)

/-- STALL_EXPIRY (R129). -/
def execStallExpiry (s : State) : Host.Outcome State Fault Refusal := .next (s.whenUp State.stallDue)

/-- FRAME_RELEASED (R155). -/
def execFrameReleased (s : State) : Host.Outcome State Fault Refusal := .next (s.whenUp State.reportReleased)

/-- SUBMISSION_RING_TAKE_INTO_USE (R132). -/
def execSubmissionRingTakeIntoUse (s : State) : Host.Outcome State Fault Refusal :=
  .next (s.whenUp fun t => t.whenever (t.subm.ringWaiting && t.subm.idle) State.takeRing)

/-- RECOMPUTE_TAKE_INTO_USE (R139). -/
def execRecomputeTakeIntoUse (s : State) : Host.Outcome State Fault Refusal := .next (s.whenUp State.takePending)

/-- DATA_PLACEMENT (R148). -/
def execDataPlacement (s : State) : Host.Outcome State Fault Refusal := .next (s.whenUp State.dataStep)

/-- REPLACED (R153). -/
def execReplaced (s : State) : Host.Outcome State Fault Refusal := .next (s.whenUp State.replaceStep)

/-- STATUS_PLACEMENT (R157). -/
def execStatusPlacement (s : State) : Host.Outcome State Fault Refusal := .next (s.whenUp State.statusStep)

/-- PROVE_PLACEMENT (R158). -/
def execProvePlacement (s : State) : Host.Outcome State Fault Refusal := .next (s.whenUp State.proveStep)

/-- COPIER_READ_ANSWER (R150, R154). -/
def execCopierReadAnswer (down : Label) (answer : Answer) (s : State) : Host.Outcome State Fault Refusal :=
  s.answer Issuer.isCopierRead down answer

/-- COPIER_WRITE_ANSWER (R151, R154, R159). -/
def execCopierWriteAnswer (down : Label) (answer : Answer) (s : State) : Host.Outcome State Fault Refusal :=
  s.answer Issuer.isCopierWrite down answer

/-- STATUS_TIMER_EXPIRY of a pair (R156). -/
def execStatusTimerExpiry (pair : Pair) (s : State) : Host.Outcome State Fault Refusal :=
  .next (s.whenUp fun t => t.whenever (t.due (t.pair pair).statusTimer) fun u => u.statusExpire pair)

end Sys2Proof.Machine
end

