-- ==== Sys2Proof/Machine/Dispatch.lean ====
section
/-! DEFINITION. The meaning of each command: one arm per constructor of Instr. -/

namespace Sys2Proof.Machine

def exec (i : Instr) (s : State) : Host.Outcome State Fault Refusal :=
  match i with
  | .read label tag addr words => Sys2Proof.Machine.execRead label tag addr words s
  | .write label tag addr data => Sys2Proof.Machine.execWrite label tag addr data s
  | .lockedRead label tag addr words => Sys2Proof.Machine.execLockedRead label tag addr words s
  | .lockedWrite label tag addr data => Sys2Proof.Machine.execLockedWrite label tag addr data s
  | .arbiterGrant down us => Sys2Proof.Machine.execArbiterGrant down us s
  | .lockLimitExpiry us => Sys2Proof.Machine.execLockLimitExpiry us s
  | .memoryAnswer down answer => Sys2Proof.Machine.execMemoryAnswer down answer s
  | .responseLimitExpiry down us => Sys2Proof.Machine.execResponseLimitExpiry down us s
  | .lateAnswer down => Sys2Proof.Machine.execLateAnswer down s
  | .fullReset => Sys2Proof.Machine.execFullReset s
  | .resetRelease us => Sys2Proof.Machine.execResetRelease us s
  | .quietAnswerDiscard down => Sys2Proof.Machine.execQuietAnswerDiscard down s
  | .downstreamQuietEnd us => Sys2Proof.Machine.execDownstreamQuietEnd us s
  | .roomNotice => Sys2Proof.Machine.execRoomNotice s
  | .skewTimerExpiry => Sys2Proof.Machine.execSkewTimerExpiry s
  | .pieceEnd down answer => Sys2Proof.Machine.execPieceEnd down answer s
  | .fetchOffer => Sys2Proof.Machine.execFetchOffer s
  | .fetchAnswer down answer => Sys2Proof.Machine.execFetchAnswer down answer s
  | .frameSelection => Sys2Proof.Machine.execFrameSelection s
  | .ageExpiry number => Sys2Proof.Machine.execAgeExpiry number s
  | .stallExpiry => Sys2Proof.Machine.execStallExpiry s
  | .frameReleased => Sys2Proof.Machine.execFrameReleased s
  | .submissionRingTakeIntoUse => Sys2Proof.Machine.execSubmissionRingTakeIntoUse s
  | .recomputeTakeIntoUse => Sys2Proof.Machine.execRecomputeTakeIntoUse s
  | .dataPlacement => Sys2Proof.Machine.execDataPlacement s
  | .replaced => Sys2Proof.Machine.execReplaced s
  | .statusPlacement => Sys2Proof.Machine.execStatusPlacement s
  | .provePlacement => Sys2Proof.Machine.execProvePlacement s
  | .copierReadAnswer down answer => Sys2Proof.Machine.execCopierReadAnswer down answer s
  | .copierWriteAnswer down answer => Sys2Proof.Machine.execCopierWriteAnswer down answer s
  | .statusTimerExpiry pair => Sys2Proof.Machine.execStatusTimerExpiry pair s
  | .drainedPairStart pair => Sys2Proof.Machine.execDrainedPairStart pair s
  | .provingPeriodEnd pair => Sys2Proof.Machine.execProvingPeriodEnd pair s
  | .retryHoldoffExpiry pair => Sys2Proof.Machine.execRetryHoldoffExpiry pair s
  | .silenceExpiry pair => Sys2Proof.Machine.execSilenceExpiry pair s
  | .lossHoldoffExpiry pair => Sys2Proof.Machine.execLossHoldoffExpiry pair s
  | .penaltyEnd pair => Sys2Proof.Machine.execPenaltyEnd pair s
  | .quarantineFactorReset pair => Sys2Proof.Machine.execQuarantineFactorReset pair s
  | .surgeFallingEdge => Sys2Proof.Machine.execSurgeFallingEdge s
  | .surgeRisingEdge => Sys2Proof.Machine.execSurgeRisingEdge s
  | .epochBoundary => Sys2Proof.Machine.execEpochBoundary s
  | .referenceAcquired => Sys2Proof.Machine.execReferenceAcquired s
  | .referenceLost => Sys2Proof.Machine.execReferenceLost s
  | .pointerWriteAnswer down answer => Sys2Proof.Machine.execPointerWriteAnswer down answer s
  | .eventWordWriteAnswer down answer => Sys2Proof.Machine.execEventWordWriteAnswer down answer s
  | .reportTimerExpiry => Sys2Proof.Machine.execReportTimerExpiry s
  | .publicationStart => Sys2Proof.Machine.execPublicationStart s
  | .publicationWriteAnswer down answer => Sys2Proof.Machine.execPublicationWriteAnswer down answer s
  | .heldReadRelease => Sys2Proof.Machine.execHeldReadRelease s
  | .millisecondTick => Sys2Proof.Machine.execMillisecondTick s

end Sys2Proof.Machine
end

