-- ==== Sys2Proof/Safety.lean ====
section
/-! DEFINITION. What a safe step is, and the standing conditions of the manual: those a statement takes as a premise, and those every
step keeps. -/

namespace Sys2Proof.Machine

/-- A safe step ends in a next state, neither a fault nor a refusal. -/
def State.safe (s : State) : Prop := ∃ t, step s = .next t

/-! ## When the block listens -/

/-- RESET_N is high and a transaction under this label is taken from the link (R1). -/
def State.takes (s : State) (label : Label) : Prop := s.pins.resetN = true ∧ s.canTake label = true

/-- RESET_N is high and the quiet period has passed, so grants are made and answers are acted on (R22). -/
def State.linked (s : State) : Prop := s.pins.resetN = true ∧ s.path.quiet = false

/-- A downstream transaction of an issuer, open under a label and not timed out, on a part that is linked (R2, R19). -/
def State.awaits (s : State) (d : Label) (t : DownTx) (i : Issuer) : Prop :=
  s.linked ∧ s.downTx d = some t ∧ t.timedOut = false ∧ t.issuer = i

/-- A forwarded WRITE of the upstream transaction u, open under a downstream label (R2, R11). -/
def State.awaitsWrite (s : State) (d : Label) (t : DownTx) (u : UpTx) : Prop :=
  s.awaits d t (.forward u.label) ∧ s.upTx u.label = some u ∧ t.kind = .write ∧ u.kind = .write

/-- The state once the OK answer of a forwarded WRITE has been returned and before the write is handed on (R2, R11). -/
def State.writeAnswered (s : State) (d : Label) (u : UpTx) : State :=
  (s.setDown d none).closeUp (okResponse u.label u.tag [])

/-- A burst whose first and last words lie in different 1 KiB-aligned blocks (R1). -/
def spansBlocks (addr : Word) (words : Nat) : Prop := addr.toNat / 1024 ≠ (addr.toNat + 4 * (words - 1)) / 1024

/-! ## What every step keeps -/

/-- The surge stop is in force exactly while the flag is set and the enable is on; the Pair Supervisor's view agrees; the flag is set
while SURGE_N is low; and every pair is HELD or OUT under the stop, with none HELD otherwise (section 9.1, R180, R189, R190). -/
def State.surgeOk (s : State) : Prop :=
  s.surge.stop = (s.surge.flag && s.prof.active.surgeEnable) ∧ s.sup.stopView = s.surge.stop ∧
    (s.pins.resetN = true → s.pins.surgeN = false → s.surge.flag = true) ∧
    ∀ p : Pair, (s.surge.stop = true → (s.pair p).state = .out ∨ (s.pair p).state = .held) ∧
      (s.surge.stop = false → (s.pair p).state ≠ .held)

/-- ATTN_N is asserted exactly while the event set and the enable set share a flag (R208). -/
def State.attnOk (s : State) : Prop :=
  s.pins.attn = true ↔ s.rep.events &&& s.prof.active.eventEnables ≠ 0

/-- The Delivery Queue holds exactly the frames from the oldest count up to the producer count, at most 64, and those before the
consumer count are the retiring ones (R95, R110, R111). -/
def State.deliveryOk (s : State) : Prop :=
  s.deliv.queue.length ≤ 64 ∧ distance s.deliv.producer s.deliv.oldest = s.deliv.queue.length ∧
    distance s.deliv.consumer s.deliv.oldest ≤ s.deliv.queue.length ∧
    ∀ (i : Nat) (f : FrameRec), s.deliv.queue[i]? = some f →
      f.count = s.deliv.oldest + halfOf i ∧ (f.retiring = true ↔ i < distance s.deliv.consumer s.deliv.oldest)

/-- At most 8 upstream transactions are open, no two under one label, and the streak lies in 0..8 (R1, R13). -/
def State.upstreamOk (s : State) : Prop :=
  s.path.up.length ≤ 8 ∧ (s.path.up.map UpTx.label).Pairwise (· ≠ ·) ∧ s.path.streak ≤ 8

/-- The Transmit Queue and the fetch in flight together never exceed 32 (R122, R125). -/
def State.transmitOk (s : State) : Prop := s.subm.queue.length + (if s.subm.fetch.isSome then 1 else 0) ≤ 32

/-- The Pointer Writer's list holds at most one entry per target (R16). -/
def State.pointerOk (s : State) : Prop := (s.path.pointer.map PointerEntry.target).Pairwise (· ≠ ·)

end Sys2Proof.Machine
end

