-- ==== Sys2Proof/Certificates/Slice0/Obligations.lean ====
section
/-! DEFINITION. The statements about the BX8 that are to be proved, each from the numbered rules it cites. -/

open Sys2Proof Sys2Proof.Machine

/-! ## The queue, reset and the quiet period -/

/-- A step runs the command at the front of the queue on the state with the queue's rest. -/
def Obligations.StepRunsTheFrontCommand : Prop :=
  ∀ (c : Instr) (s : State) (rest : List Instr),
    step { s with pending := c :: rest } = exec c { s with pending := rest }

/-- With nothing in the queue the block idles, the model's choice (log entry 4); and no command touches the queue of the commands behind
it, since the queue is the model's own. -/
def Obligations.QueueIsOnlyTakenFrom : Prop :=
  (∀ s : State, s.pending = [] → step s = .next s) ∧
    ∀ (c : Instr) (s t : State), exec c s = .next t → t.pending = s.pending

/-- The values the rules state for the machine after reset, block by block (R22, R45, R71, R115, R134, R161, R185, R194, R204 to R207,
R215). The clear surge flag rests on SURGE_N being high in State.reset, the model's choice (log entry 5): R189 sets the flag at the end of
a reset under a low level. -/
def Obligations.ResetValues : Prop :=
  let s := State.reset
  (s.path.up = [] ∧ (∀ d, s.downTx d = none) ∧ s.path.lock = none ∧ s.path.turn = .passThrough ∧ s.path.streak = 0 ∧
      s.path.pointer = []) ∧
    (∀ p, (s.pair p).state = .out ∧ (s.pair p).reason = .none ∧ (s.pair p).lane = none ∧ (s.pair p).cells = [] ∧
      (s.pair p).landed = 0 ∧ (s.pair p).released = 0 ∧ (s.pair p).cursor = .idle ∧ (s.pair p).lastError = .none ∧
      (s.pair p).horizon = none ∧ (s.pair p).flaps = [] ∧ (s.pair p).factor = 0 ∧ (s.pair p).peerState = 0 ∧
      (s.pair p).silence = none ∧ (s.pair p).deadline = none ∧ (s.pair p).entered = none ∧ (s.pair p).alloc.count = 0 ∧
      (s.pair p).fill = 0 ∧ (s.pair p).produced = 0 ∧ (s.pair p).consumed = 0 ∧ (s.pair p).credit = 0 ∧
      (s.pair p).statusDue = false ∧ (s.pair p).statusTimer = none ∧ (s.pair p).proveIndex = 0 ∧
      (s.pair p).injectOnce = false ∧ (s.pair p).recentErrors = 0 ∧ (s.pair p).proving.sent = 0 ∧
      (s.pair p).proving.received = 0 ∧ (s.pair p).proving.errored = 0 ∧ (s.pair p).proving.outcome = .none ∧
      ∀ c, (s.pair p).count c = 0) ∧
    (s.reseq.synced = false ∧ s.reseq.head = 0 ∧ s.reseq.window = Vector.replicate 512 .empty ∧ s.reseq.blocked = false ∧
      s.reseq.lostTally = 0 ∧ s.reseq.discardedTally = 0 ∧ s.reseq.skew = none) ∧
    (s.deliv.queue = [] ∧ s.deliv.producer = 0 ∧ s.deliv.consumer = 0 ∧ s.deliv.oldest = 0) ∧
    (s.subm.ring = none ∧ s.subm.produced = 0 ∧ s.subm.fetched = 0 ∧ s.subm.completed = 0 ∧ s.subm.fetch = none ∧
      s.subm.queue = []) ∧
    (s.dist.generation = none ∧ s.dist.nextSeq = 0 ∧ s.dist.target = none ∧ s.dist.dataTurn = 0 ∧ s.dist.controlTurn = 0 ∧
      s.dist.frame = none ∧ s.dist.toReplace = none ∧ s.dist.copier = none) ∧
    (s.sup.peerMap = 0 ∧ s.sup.peerValid = false ∧ s.sup.peerGeneration = 0 ∧ s.sup.peerHead = 0 ∧ s.sup.stopView = false ∧
      s.surge.flag = false ∧ s.surge.stop = false) ∧
    (s.prof.image = defaultImage ∧ s.prof.active = defaultImage ∧ s.prof.waiting = none ∧ s.prof.lastApplied = none ∧
      s.prof.lastRejected = none ∧ s.prof.rejectCode = .none ∧ s.prof.rejectField = 0 ∧ s.prof.actedBond = 0 ∧
      s.prof.actedAck = 0 ∧ s.prof.actedOneShot = 0 ∧ ∀ p : Pair, s.prof.actedInject[p.val] = 0) ∧
    (s.clock.time = 0 ∧ s.clock.source = .internal ∧ s.clock.epochCount = 0 ∧ s.clock.nextEpoch = 10) ∧
    (s.rep.events = 0 ∧ s.rep.fresh = 0 ∧ s.rep.afterIssue = 0 ∧ s.rep.repost = false ∧ s.pins.attn = false ∧
      s.rep.pubState = .idle ∧ s.rep.followOn = false ∧ s.rep.pubCount = 0 ∧ s.rep.timer = none) ∧
    ∀ c, s.count c = 0

/-- FULL_RESET from any state: every block takes its reset values and RESET_N is low; the input pins and what the model keeps beside the
part stay (R22; log entries 5 to 7 for what stays). -/
def Obligations.FullResetClearsEveryBlock : Prop :=
  ∀ s : State, exec .fullReset s =
    .next { State.reset with
      pins := { resetN := false, surgeN := s.pins.surgeN, attn := false, straps := s.pins.straps }
      responses := s.responses, freeIndex := s.freeIndex, pending := s.pending }

/-- RESET_RELEASE starts the quiet period, latching a surge when SURGE_N is low (the default profile has the stop's enable off);
DOWNSTREAM_QUIET_END ends it once 32 µs have passed; an answer in it is discarded uncounted (R22, R189, R194). -/
def Obligations.ReleaseAndQuietPeriod : Prop :=
  ∀ (s : State) (us : Nat) (d : Label),
    let up : State := { s with pins := { s.pins with resetN := true }, path := { s.path with quiet := true, quietFrom := us } }
    (s.pins.resetN = false → s.pins.surgeN = true → exec (.resetRelease us) s = .next up) ∧
    (s.pins.resetN = false → s.pins.surgeN = false → s.surge.stop = false → s.prof.active.surgeEnable = false →
      exec (.resetRelease us) s =
        .next ((State.raise { up with surge := { flag := true, stop := false } } .surge).bump .surgeEdge)) ∧
    (s.pins.resetN = true → s.path.quiet = true → s.path.quietFrom + 32 ≤ us →
      exec (.downstreamQuietEnd us) s = .next { s with path := { s.path with quiet := false } }) ∧
    (s.pins.resetN = true → s.path.quiet = true → us < s.path.quietFrom + 32 → exec (.downstreamQuietEnd us) s = .next s) ∧
    (s.path.quiet = true → exec (.quietAnswerDiscard d) s = .next s)

/-- While RESET_N is low nothing is taken but the reset's own commands and the level of SURGE_N: the model's choice (log entry 6); and in
the quiet period nothing is granted and no answer is acted on or counted (R22). -/
def Obligations.NothingIsTakenInResetOrQuiet : Prop :=
  ∀ s : State,
    (s.pins.resetN = false → ∀ c : Instr, c.wellFormed = true → c ≠ .fullReset → (∀ us, c ≠ .resetRelease us) →
      c ≠ .surgeFallingEdge → c ≠ .surgeRisingEdge → exec c s = .next s) ∧
    (s.path.quiet = true → ∀ (d : Label) (us : Nat) (a : Answer),
      exec (.arbiterGrant d us) s = .next s ∧ exec (.memoryAnswer d a) s = .next s ∧ exec (.pieceEnd d a) s = .next s ∧
      exec (.fetchAnswer d a) s = .next s ∧ exec (.copierReadAnswer d a) s = .next s ∧
      exec (.copierWriteAnswer d a) s = .next s ∧ exec (.pointerWriteAnswer d a) s = .next s ∧
      exec (.eventWordWriteAnswer d a) s = .next s ∧ exec (.publicationWriteAnswer d a) s = .next s ∧
      exec (.lateAnswer d) s = .next s)

/-! ## The Memory Path: taking transactions -/

/-- A transaction stays on the link while 8 are open or its label is in use (R1). -/
def Obligations.NoRoomLeavesTransactionOnLink : Prop :=
  ∀ (s : State) (label : Label) (tag : Tag) (addr : Word) (words : Nat) (data : List WriteWord),
    (8 ≤ s.path.up.length ∨ ∃ t ∈ s.path.up, t.label = label) →
    (transactionOk addr words = true →
      exec (.read label tag addr words) s = .next s ∧ exec (.lockedRead label tag addr words) s = .next s) ∧
    (transactionOk addr data.length = true →
      exec (.write label tag addr data) s = .next s ∧ exec (.lockedWrite label tag addr data) s = .next s)

/-- What the link cannot carry stops by name, the model's choice (log entry 34): a transaction whose address is no word address or whose
count lies outside 1..16 is refused, and an OK answer to a read that does not carry one word for each word read faults. -/
def Obligations.MalformedOperandsStopByName : Prop :=
  (∀ (s : State) (label : Label) (tag : Tag) (addr : Word) (words : Nat) (data : List WriteWord),
    (addr.toNat % 4 ≠ 0 ∨ words = 0 ∨ 16 < words →
      exec (.read label tag addr words) s = .refused .malformedTransaction ∧
      exec (.lockedRead label tag addr words) s = .refused .malformedTransaction) ∧
    (addr.toNat % 4 ≠ 0 ∨ data.length = 0 ∨ 16 < data.length →
      exec (.write label tag addr data) s = .refused .malformedTransaction ∧
      exec (.lockedWrite label tag addr data) s = .refused .malformedTransaction)) ∧
  ∀ (s : State) (d : Label) (t : DownTx) (label : Label) (second : Bool) (data : List Word),
    t.kind = .read ∨ t.kind = .lockedRead → data.length ≠ t.count →
    (s.awaits d t (.forward label) → exec (.memoryAnswer d (.ok data)) s = .fault .malformedAnswer) ∧
    (s.awaits d t (.piece label second) → exec (.pieceEnd d (.ok data)) s = .fault .malformedAnswer) ∧
    (s.awaits d t .fetch → exec (.fetchAnswer d (.ok data)) s = .fault .malformedAnswer) ∧
    (s.awaits d t .copierRead → exec (.copierReadAnswer d (.ok data)) s = .fault .malformedAnswer)

/-- A burst that spans two 1 KiB blocks is answered ERROR at once and counted REFUSED; nothing else changes (R1). -/
def Obligations.BurstCrossingRefused : Prop :=
  ∀ (s : State) (label : Label) (tag : Tag) (addr : Word) (words : Nat) (data : List WriteWord), s.takes label →
    let refused := Host.Outcome.next ((s.respond { label := label, tag := tag, ok := false, data := [] }).bump .refused)
    (transactionOk addr words = true → spansBlocks addr words →
      exec (.read label tag addr words) s = refused ∧ exec (.lockedRead label tag addr words) s = refused) ∧
    (transactionOk addr data.length = true → spansBlocks addr data.length →
      exec (.write label tag addr data) s = refused ∧ exec (.lockedWrite label tag addr data) s = refused)

/-- A READ outside the Delivery Window is opened and waits for a grant, or is held when it touches the publication range while a
publication is due or in progress (R1, R8, R212). -/
def Obligations.ReadsForwardedOrHeld : Prop :=
  ∀ (s : State) (label : Label) (tag : Tag) (addr : Word) (words : Nat),
    s.takes label → transactionOk addr words = true → ¬ spansBlocks addr words →
    (∀ c ∈ s.classes addr words, c.isWindow = false) →
    let range := (s.classes addr words).any WordClass.inRange
    let tx : UpTx := { label := label, tag := tag, kind := .read, addr := addr, count := words, data := [], watched := false,
                       pubRange := range, eventRead := readsEventSet (s.classes addr words), handOn := [], stage := .waiting }
    (range = true → s.rep.pubState ≠ .idle →
      exec (.read label tag addr words) s = .next ((s.setUp (s.path.up ++ [{ tx with stage := .held }])).bump .heldRead)) ∧
    (range = false ∨ s.rep.pubState = .idle → exec (.read label tag addr words) s = .next (s.setUp (s.path.up ++ [tx])))

/-- The Delivery Window reads that make no downstream read: an empty slot or a retiring frame (R100, R101), a read at or beyond the
frame's length (R103), and a read that touches a void entry (R104). -/
def Obligations.WindowReadsAnsweredAtOnce : Prop :=
  ∀ (s : State) (label : Label) (tag : Tag) (addr : Word) (words offset : Nat) (rest : List WordClass),
    s.takes label → transactionOk addr words = true → ¬ spansBlocks addr words →
    s.classes addr words = .window offset :: rest →
    let error := s.respond { label := label, tag := tag, ok := false, data := [] }
    (s.slotFrame (offset / 4096) = none → exec (.read label tag addr words) s = .next ((error.bump .noFrameRead).raise .strayRead)) ∧
    ∀ f, s.slotFrame (offset / 4096) = some f →
      (f.retiring = true → exec (.read label tag addr words) s = .next ((error.bump .noFrameRead).raise .strayRead)) ∧
      (f.retiring = false → f.length ≤ offset % 4096 →
        exec (.read label tag addr words) s =
          .next ((s.respond { label := label, tag := tag, ok := true, data := List.replicate words 0 }).bump .zeroRead)) ∧
      (f.retiring = false → offset % 4096 < f.length →
        (∃ x ∈ f.touched (offset % 4096) (offset % 4096 + 4 * words), x.2.isVoid = true) →
        exec (.read label tag addr words) s = .next ((error.bump .voidRead).raise .strayRead))

/-- An accepted Delivery Window read pins its frame, is counted, and stays open with one piece for each entry it touches, the first
waiting for a grant (R102, R104, R105). -/
def Obligations.WindowReadAccepted : Prop :=
  ∀ (s : State) (label : Label) (tag : Tag) (addr : Word) (words offset : Nat) (rest : List WordClass) (f : FrameRec),
    s.takes label → transactionOk addr words = true → ¬ spansBlocks addr words →
    s.classes addr words = .window offset :: rest → s.slotFrame (offset / 4096) = some f → f.retiring = false →
    offset % 4096 < f.length →
    (∀ x ∈ f.touched (offset % 4096) (offset % 4096 + 4 * words), x.2.isVoid = false) →
    let pieces := startPieces ((f.touched (offset % 4096) (offset % 4096 + 4 * words)).map
      (s.pieceOf (offset % 4096) (offset % 4096 + 4 * words)))
    let tx : UpTx := { label := label, tag := tag, kind := .read, addr := addr, count := words, data := [], watched := false,
                       pubRange := false, eventRead := false, handOn := [],
                       stage := .redirected { frame := f.count, start := offset % 4096, length := f.length, pieces := pieces,
                                              faulted := false } }
    let pinned := (s.modFrame f.count fun g => { g with pins := g.pins + 1 }).bump .redirectedRead
    exec (.read label tag addr words) s =
      .next ((if pieces.length = 2 then pinned.bump .splitRead else pinned).setUp (s.path.up ++ [tx]))

/-- A WRITE outside the Delivery Window that guard mode does not refuse is opened and waits for a grant, watched when a block is to be
handed it; foreign and partial words are counted and raise FOREIGN_ACCESS once (R4 to R8, R10 to R12, R21). That the events and counters
come when the write is taken, not when memory answers it, is the model's reading (log entry 12). -/
def Obligations.WritesForwarded : Prop :=
  ∀ (s : State) (label : Label) (tag : Tag) (addr : Word) (data : List WriteWord),
    s.takes label → transactionOk addr data.length = true → ¬ spansBlocks addr data.length →
    (∀ c ∈ s.classes addr data.length, c.isWindow = false) →
    let ts := s.treatments tag addr data
    (s.prof.active.guardOn = false ∨ ∀ t ∈ ts, t.guarded = false) →
    let tx : UpTx := { label := label, tag := tag, kind := .write, addr := addr, count := data.length, data := data,
                       watched := ts.any Treatment.watched, pubRange := false, eventRead := false, handOn := handOns data ts,
                       stage := .waiting }
    (raisesForeign data ts = false → exec (.write label tag addr data) s = .next (s.setUp (s.path.up ++ [tx]))) ∧
    (raisesForeign data ts = true →
      exec (.write label tag addr data) s =
        .next ((((s.countForeign data ts).countPartial data ts).raise .foreignAccess).setUp (s.path.up ++ [tx])))

/-- With guard on, a WRITE with a guarded foreign word is answered ERROR, raises FOREIGN_ACCESS once, is counted as foreign, and is
handed to no block (R6, R7, R10). Which counters a refused write increases (those of its foreign words, no partial one) is the model's
reading (log entry 13), and that they come when it is taken is log entry 12. -/
def Obligations.GuardedWriteRefused : Prop :=
  ∀ (s : State) (label : Label) (tag : Tag) (addr : Word) (data : List WriteWord),
    s.takes label → transactionOk addr data.length = true → ¬ spansBlocks addr data.length →
    (∀ c ∈ s.classes addr data.length, c.isWindow = false) → s.prof.active.guardOn = true →
    (∃ t ∈ s.treatments tag addr data, t.guarded = true) →
    exec (.write label tag addr data) s =
      .next (((s.respond { label := label, tag := tag, ok := false, data := [] }).countForeign data
        (s.treatments tag addr data)).raise .foreignAccess)

/-- A WRITE or a locked kind into the Delivery Window is answered ERROR, raises STRAY_READ and is counted STRAY_ACCESS (R9, R17). -/
def Obligations.WindowWritesAndLockedKindsStray : Prop :=
  ∀ (s : State) (label : Label) (tag : Tag) (addr : Word) (words : Nat) (data : List WriteWord), s.takes label →
    let stray := Host.Outcome.next
      (((s.respond { label := label, tag := tag, ok := false, data := [] }).bump .strayAccess).raise .strayRead)
    (transactionOk addr words = true → ¬ spansBlocks addr words → (∃ c ∈ s.classes addr words, c.isWindow = true) →
      exec (.lockedRead label tag addr words) s = stray) ∧
    (transactionOk addr data.length = true → ¬ spansBlocks addr data.length →
      (∃ c ∈ s.classes addr data.length, c.isWindow = true) →
      exec (.write label tag addr data) s = stray ∧ exec (.lockedWrite label tag addr data) s = stray)

/-- A locked kind outside every aperture waits for a grant, but a LOCKED READ from the owner of the open lock is refused; a locked kind
with a word in an aperture other than the Delivery Window is refused; a refusal is counted REFUSED (R17, R18). -/
def Obligations.LockedKindsTaken : Prop :=
  ∀ (s : State) (label : Label) (tag : Tag) (addr : Word) (words : Nat) (data : List WriteWord), s.takes label →
    let refused := Host.Outcome.next ((s.respond { label := label, tag := tag, ok := false, data := [] }).bump .refused)
    (transactionOk addr words = true → ¬ spansBlocks addr words → (∀ c ∈ s.classes addr words, c = .outside) →
      (∀ l, s.path.lock = some l → l.owner ≠ tag) →
      exec (.lockedRead label tag addr words) s =
        .next (s.setUp (s.path.up ++ [waitingTx label tag .lockedRead addr words []]))) ∧
    (transactionOk addr words = true → ¬ spansBlocks addr words → (∀ c ∈ s.classes addr words, c = .outside) →
      (∃ l, s.path.lock = some l ∧ l.owner = tag) → exec (.lockedRead label tag addr words) s = refused) ∧
    (transactionOk addr words = true → ¬ spansBlocks addr words → (∃ c ∈ s.classes addr words, c ≠ .outside) →
      (∀ c ∈ s.classes addr words, c.isWindow = false) → exec (.lockedRead label tag addr words) s = refused) ∧
    (transactionOk addr data.length = true → ¬ spansBlocks addr data.length →
      (∀ c ∈ s.classes addr data.length, c = .outside) →
      exec (.lockedWrite label tag addr data) s =
        .next (s.setUp (s.path.up ++ [waitingTx label tag .lockedWrite addr data.length data]))) ∧
    (transactionOk addr data.length = true → ¬ spansBlocks addr data.length →
      (∃ c ∈ s.classes addr data.length, c ≠ .outside) → (∀ c ∈ s.classes addr data.length, c.isWindow = false) →
      exec (.lockedWrite label tag addr data) s = refused)

/-! ## The Memory Path: grants, locks and answers -/

/-- A grant under a free label issues exactly one downstream transaction, timed from its issue against the response limit in force, and
moves the turn and the streak (R2, R13 to R15, R19). The Pointer Writer's head entry, the Copier's next read or write, a record's fetch, a
publication's write and a piece of a redirected read go out with their own kind, address, words and issuer (R16, R105, R122, R150, R209,
R213). The model's choices: a Pointer Writer entry whose block is not placed leaves the list unwritten and no grant is made (log entry 15);
the streak counts waiting internal requests under a lock too, and stops at 8 (log entry 14). -/
def Obligations.GrantIssuesOneTransaction : Prop :=
  ∀ (s : State) (d : Label) (us : Nat) (r : Requester),
    s.linked → s.downTx d = none → s.grantee = some r →
    (∀ e rest, r = .pointerWriter → s.path.pointer = e :: rest → s.targetAddr e.target = none →
      exec (.arbiterGrant d us) s = .next { s with path := { s.path with pointer := rest } }) ∧
    ((r = .pointerWriter → ∃ e rest a, s.path.pointer = e :: rest ∧ s.targetAddr e.target = some a) →
      ∃ (t : State) (tx : DownTx), exec (.arbiterGrant d us) s = .next t ∧
        t.path.down = s.path.down.set d.val (some tx) ∧ tx.issuedAt = us ∧ tx.limit = s.prof.active.responseLimit ∧
        tx.timedOut = false ∧
        (s.prof.active.roundRobin = true → t.path.turn = r ∧ t.path.streak = s.path.streak) ∧
        (s.prof.active.roundRobin = false → r = .passThrough →
          t.path.turn = s.path.turn ∧ t.path.streak = if s.internalWaits then min 8 (s.path.streak + 1) else 0) ∧
        (s.prof.active.roundRobin = false → r ≠ .passThrough → t.path.turn = r ∧ t.path.streak = 0) ∧
        t.pairs = s.pairs ∧ t.reseq = s.reseq ∧ t.deliv = s.deliv ∧ t.sup = s.sup ∧ t.surge = s.surge ∧ t.prof = s.prof ∧
        t.clock = s.clock ∧ t.pins = s.pins ∧
        (r ≠ .passThrough → tx.tag = 0) ∧
        (∀ e rest a, r = .pointerWriter → s.path.pointer = e :: rest → s.targetAddr e.target = some a →
          tx.kind = .write ∧ tx.addr = wordOf a ∧ tx.count = e.value.length ∧ tx.data = wholeWords e.value ∧
            tx.issuer = (if e.target = .eventWord then .eventWord else .pointer) ∧ t.path.pointer = rest ∧
            t.rep.afterIssue = if e.target = .eventWord then 0 else s.rep.afterIssue) ∧
        (∀ w, r = .copier → s.dist.copier = some w →
          (w.phase = .toRead →
            tx.kind = .read ∧ tx.addr = wordOf w.nextRead.1 ∧ tx.count = w.nextRead.2 ∧ tx.data = [] ∧ tx.issuer = .copierRead ∧
              t.dist.copier = some { w with phase := .reading }) ∧
          (∀ chunk, w.phase = .toWrite chunk →
            tx.kind = .write ∧ tx.addr = wordOf (w.nextWrite chunk).1 ∧ tx.count = (w.nextWrite chunk).2.length ∧
              tx.data = wholeWords (w.nextWrite chunk).2 ∧ tx.issuer = .copierWrite ∧
              t.dist.copier = some { w with phase := .writing chunk.length })) ∧
        (∀ f, r = .submissionFetch → s.subm.fetch = some f →
          tx.kind = .read ∧ tx.addr = wordOf f.slot ∧ tx.count = 3 ∧ tx.data = [] ∧ tx.issuer = .fetch ∧
            t.subm.fetch = some { f with issued := true }) ∧
        (∀ w, r = .reportPublisher → s.rep.pubWrite = some w →
          tx.kind = .write ∧ tx.addr = wordOf (s.rep.pubBase + publicationOffset w.index) ∧ tx.count = w.data.length ∧
            tx.data = wholeWords w.data ∧ tx.issuer = .publisher ∧ t.rep.pubWrite = some { w with issued := true }) ∧
        (∀ x rd p more, r = .passThrough → s.passRequest = some x → x.stage = .redirected rd → rd.pieces = p :: more →
          tx.kind = .read ∧ tx.tag = x.tag ∧ tx.data = [] ∧
            (p.stage = .waiting → tx.addr = p.addr ∧ tx.count = p.count ∧ tx.issuer = .piece x.label false) ∧
            (∀ q rest, p.stage ≠ .waiting → more = q :: rest →
              tx.addr = q.addr ∧ tx.count = q.count ∧ tx.issuer = .piece x.label true)))

/-- In TRANSIT_FIRST the pass-through request is granted unless the streak is 8 and an internal requester can be; an internal grant goes to
the first internal requester from the one after the turn; in ROUND_ROBIN to the first of all five (R14, R15). -/
def Obligations.ArbitrationChoice : Prop :=
  ∀ s : State,
    (s.prof.active.roundRobin = false → s.passRequest.isSome = true → s.path.streak ≠ 8 → s.grantee = some .passThrough) ∧
    (s.prof.active.roundRobin = false → s.passRequest.isSome = true → s.internalChoice = none → s.grantee = some .passThrough) ∧
    (s.prof.active.roundRobin = false → s.path.streak = 8 → s.internalChoice ≠ none → s.grantee = s.internalChoice) ∧
    (s.prof.active.roundRobin = false → s.passRequest = none → s.grantee = s.internalChoice) ∧
    (∀ r, s.internalChoice = some r → r ≠ .passThrough ∧ s.path.lock = none ∧ s.hasRequest r = true) ∧
    (s.prof.active.roundRobin = true → s.grantee = (afterTurn s.path.turn).find? s.mayGrant)

/-- A LOCKED READ opens the lock at its grant, with its tag, its address and the grant time; the owner's write to the lock address closes
it at its grant, and any other forwarded grant leaves the lock (R17, R18). -/
def Obligations.LockOpensAndClosesAtGrants : Prop :=
  ∀ (s : State) (d : Label) (us : Nat) (x : UpTx),
    s.linked → s.downTx d = none → s.grantee = some .passThrough → s.passRequest = some x → x.stage = .waiting →
    ∃ t, exec (.arbiterGrant d us) s = .next t ∧
      (x.kind = .lockedRead →
        t.path.lock = some { owner := x.tag, addr := x.addr, start := us, limit := s.prof.active.lockLimit }) ∧
      (∀ l, x.kind ≠ .lockedRead → s.path.lock = some l →
        (x.kind.isWrite = true ∧ x.tag = l.owner ∧ x.addr = l.addr → t.path.lock = none) ∧
        (¬ (x.kind.isWrite = true ∧ x.tag = l.owner ∧ x.addr = l.addr) → t.path.lock = some l)) ∧
      (x.kind ≠ .lockedRead → s.path.lock = none → t.path.lock = none) ∧
      ∃ tx, t.path.down = s.path.down.set d.val (some tx) ∧ tx.kind = x.kind.downstream ∧ tx.addr = x.addr ∧
        tx.count = x.count ∧ tx.tag = x.tag ∧ tx.data = x.data ∧ tx.issuer = .forward x.label

/-- The lock limit's expiry breaks the lock, raises LOCK_BROKEN and counts LOCK_BREAK; before the limit nothing happens (R18). -/
def Obligations.LockLimitBreaksTheLock : Prop :=
  ∀ (s : State) (us : Nat) (l : Lock), s.pins.resetN = true → s.path.lock = some l →
    (l.start + l.limit ≤ us →
      exec (.lockLimitExpiry us) s =
        .next ((State.bump { s with path := { s.path with lock := none } } .lockBreak).raise .lockBroken)) ∧
    (us < l.start + l.limit → exec (.lockLimitExpiry us) s = .next s)

/-- An OK answer to a forwarded transaction goes upstream under its label and tag, and both labels are released; an Event Word read also
hands its first two bytes on for clear-on-read (R1, R2, R8). -/
def Obligations.ForwardedAnswersReturned : Prop :=
  ∀ (s : State) (d : Label) (t : DownTx) (u : UpTx) (data : List Word),
    s.awaits d t (.forward u.label) → s.upTx u.label = some u →
    (u.kind.isWrite = false → t.kind = .read ∨ t.kind = .lockedRead → data.length = t.count →
      (u.eventRead = false →
        exec (.memoryAnswer d (.ok data)) s = .next ((s.setDown d none).closeUp (okResponse u.label u.tag data))) ∧
      (u.eventRead = true →
        exec (.memoryAnswer d (.ok data)) s =
          .next (((s.setDown d none).closeUp (okResponse u.label u.tag data)).clearOnRead (highHalf (data.getD 0 0))))) ∧
    (u.kind.isWrite = true → t.kind = .write → u.handOn = [] →
      exec (.memoryAnswer d (.ok data)) s = .next ((s.setDown d none).closeUp (okResponse u.label u.tag [])))

/-- A forwarded transaction that memory answers ERROR, or that the response limit ends, raises PATH_FAULT, is counted, is answered ERROR
upstream and is acted on by no block; a timed-out label stays in use; a LOCKED READ that fails also closes the lock it opened, told by its
tag, address and grant time, the model's choice (R11, R17, R19, R20; log entry 17). -/
def Obligations.ForwardedFailures : Prop :=
  ∀ (s : State) (d : Label) (us : Nat) (t : DownTx) (u : UpTx),
    s.awaits d t (.forward u.label) → s.upTx u.label = some u →
    let fails := fun closed : State → State =>
      exec (.memoryAnswer d .error) s =
        .next ((closed (((s.setDown d none).bump .memoryError).raise .pathFault)).closeUp (errorResponse u.label u.tag)) ∧
      (t.issuedAt + t.limit ≤ us →
        exec (.responseLimitExpiry d us) s =
          .next ((closed (((s.setDown d (some { t with timedOut := true })).bump .pathTimeout).raise .pathFault)).closeUp
            (errorResponse u.label u.tag)))
    let opened := fun l : Lock => t.kind = .lockedRead ∧ l.owner = t.tag ∧ l.addr = t.addr ∧ l.start = t.issuedAt
    ((∀ l, s.path.lock = some l → ¬ opened l) → fails fun v => v) ∧
    (∀ l, s.path.lock = some l → opened l → fails fun v => v.setLock none) ∧
    (us < t.issuedAt + t.limit → exec (.responseLimitExpiry d us) s = .next s)

/-- An answer for a label not in use, or for a timed-out transaction, is discarded and counted LATE_ANSWER, and the label is released,
whichever row brings it (R2, R19). -/
def Obligations.LateAnswersDiscarded : Prop :=
  ∀ (s : State) (d : Label) (a : Answer), s.linked → (∀ t, s.downTx d = some t → t.timedOut = true) →
    let late := Host.Outcome.next ((s.setDown d none).bump .lateAnswer)
    exec (.lateAnswer d) s = late ∧ exec (.memoryAnswer d a) s = late ∧ exec (.pieceEnd d a) s = late ∧
      exec (.fetchAnswer d a) s = late ∧ exec (.copierReadAnswer d a) s = late ∧ exec (.copierWriteAnswer d a) s = late ∧
      exec (.pointerWriteAnswer d a) s = late ∧ exec (.eventWordWriteAnswer d a) s = late ∧
      exec (.publicationWriteAnswer d a) s = late

/-! ## Hand-on of watched writes -/

/-- A transmit consumer count, taken when memory answers its write OK: valid within the outstanding count, else not acted on, with
FOREIGN_ACCESS and BAD_TX_CONSUMER (R141). -/
def Obligations.TransmitConsumerCountTaken : Prop :=
  ∀ (s : State) (d : Label) (t : DownTx) (u : UpTx) (p : Pair) (v : Half) (data : List Word),
    s.awaitsWrite d t u → u.handOn = [.transmitConsumer p v] →
    let r := s.pair p
    (distance v r.consumed ≤ distance r.produced r.consumed →
      exec (.memoryAnswer d (.ok data)) s = .next ((s.writeAnswered d u).modPair p fun x => { x with consumed := v })) ∧
    (distance r.produced r.consumed < distance v r.consumed →
      exec (.memoryAnswer d (.ok data)) s =
        .next (((s.writeAnswered d u).bumpPair p .badTxConsumer).raise .foreignAccess))

/-- The delivery consumer count: an advance past the outstanding count is not acted on, with FOREIGN_ACCESS and BAD_CONSUMER; an advance
of 0 changes nothing; a valid one becomes the count (R109, R110). -/
def Obligations.DeliveryConsumerCountTaken : Prop :=
  ∀ (s : State) (d : Label) (t : DownTx) (u : UpTx) (v : Half) (data : List Word),
    s.awaitsWrite d t u → u.handOn = [.deliveryConsumer v] →
    let a := distance v s.deliv.consumer
    let o := distance s.deliv.producer s.deliv.consumer
    (o < a →
      exec (.memoryAnswer d (.ok data)) s = .next (((s.writeAnswered d u).bump .badConsumer).raise .foreignAccess)) ∧
    (a = 0 → exec (.memoryAnswer d (.ok data)) s = .next (s.writeAnswered d u)) ∧
    (a ≠ 0 → a ≤ o → ∃ t', exec (.memoryAnswer d (.ok data)) s = .next t' ∧ t'.deliv.consumer = v ∧
      t'.deliv.producer = s.deliv.producer ∧ t'.count .framesRetired = satAdd32 (s.count .framesRetired) a ∧
      t'.reseq = s.reseq ∧ t'.dist = s.dist ∧ t'.subm = s.subm ∧ t'.prof = s.prof ∧ t'.sup = s.sup ∧ t'.surge = s.surge)

/-- The submission producer count: valid within the room, else not acted on, with FOREIGN_ACCESS and BAD_PRODUCER (R120). -/
def Obligations.SubmissionProducerCountTaken : Prop :=
  ∀ (s : State) (d : Label) (t : DownTx) (u : UpTx) (v : Half) (data : List Word),
    s.awaitsWrite d t u → u.handOn = [.submissionProducer v] →
    (distance v s.subm.produced ≤ s.subm.room →
      exec (.memoryAnswer d (.ok data)) s = .next ((s.writeAnswered d u).modSubm fun x => { x with produced := v })) ∧
    (s.subm.room < distance v s.subm.produced →
      exec (.memoryAnswer d (.ok data)) s = .next (((s.writeAnswered d u).bump .badProducer).raise .foreignAccess))

/-- Captured words other than the commit word replace the image's words and change nothing else (R198). -/
def Obligations.ProfileWordsCaptured : Prop :=
  ∀ (s : State) (d : Label) (t : DownTx) (u : UpTx) (words : List (Nat × Word)) (data : List Word),
    s.awaitsWrite d t u → u.handOn = [.capture words] → (∀ x ∈ words, x.1 ≠ 0) →
    exec (.memoryAnswer d (.ok data)) s =
      .next ((s.writeAnswered d u).modProf fun x =>
        { x with image := words.foldl (fun a w => a.setField w.1 w.2) x.image })

/-- A captured commit word in AT_EPOCH mode waits, replacing a waiting commit; in no known mode it is rejected with RANGE naming field 0;
and a NOW commit whose pending profile fails a test is rejected, the active profile unchanged: RANGE, LIVE_RING or PIN_CONFLICT naming the
field its test finds, or OVERLAP (R199, R200). The field RANGE names for a base that must be placed, and for a base whose size is itself
out of range, is the model's reading (log entries 10 and 42); R200 names none for OVERLAP, so that field is a free value (log entry 9). -/
def Obligations.CommitsWaitOrAreRejected : Prop :=
  ∀ (s : State) (d : Label) (t : DownTx) (u : UpTx) (w : Word) (data : List Word),
    s.awaitsWrite d t u → u.handOn = [.capture [(0, w)]] →
    let captured := (s.writeAnswered d u).modProf fun x => { x with image := x.image.setField 0 w }
    let freed := if s.prof.waiting.isSome then (captured.modProf fun x => { x with waiting := none }).bump .commitReplaced
                 else captured
    let rejected := fun (c : RejectCode) (field : Half) =>
      Host.Outcome.next (((freed.modProf fun x =>
        { x with lastRejected := some (highHalf w), rejectCode := c, rejectField := field }).raise .profileRejected).bump .rejected)
    (byteOf w 2 = 2 →
      exec (.memoryAnswer d (.ok data)) s = .next (freed.modProf fun x => { x with waiting := some (highHalf w) })) ∧
    (byteOf w 2 ≠ 1 → byteOf w 2 ≠ 2 → exec (.memoryAnswer d (.ok data)) s = rejected .range 0) ∧
    (∀ f, byteOf w 2 = 1 → (s.prof.image.setField 0 w).rangeFault = some f →
      exec (.memoryAnswer d (.ok data)) s = rejected .range (halfOf f)) ∧
    (byteOf w 2 = 1 → (s.prof.image.setField 0 w).rangeFault = none →
      (s.overlapFault (s.prof.image.setField 0 w) = true →
        exec (.memoryAnswer d (.ok data)) s =
          .next { ((((freed.modProf fun x => { x with lastRejected := some (highHalf w), rejectCode := .overlap,
                                                      rejectField := Config.overlapRejectField s.freeIndex }).raise
            .profileRejected).bump .rejected)) with freeIndex := s.freeIndex + 1 }) ∧
      (s.overlapFault (s.prof.image.setField 0 w) = false →
        (∀ f, s.liveFault (s.prof.image.setField 0 w) = some f →
          exec (.memoryAnswer d (.ok data)) s = rejected .liveRing (halfOf f)) ∧
        (∀ f, s.liveFault (s.prof.image.setField 0 w) = none → (s.prof.image.setField 0 w).pinFault = some f →
          exec (.memoryAnswer d (.ok data)) s = rejected .pinConflict (halfOf f))))

/-- A NOW commit that passes every test: the pending profile becomes the active one, the serial is recorded, PROFILE_APPLIED is raised, and
the last rejection stays (R201). -/
def Obligations.AcceptedCommitAdoptsTheImage : Prop :=
  ∀ (s : State) (d : Label) (t : DownTx) (u : UpTx) (w : Word) (data : List Word),
    s.awaitsWrite d t u → u.handOn = [.capture [(0, w)]] → byteOf w 2 = 1 →
    s.validate (s.prof.image.setField 0 w) = .accept →
    ∃ t', exec (.memoryAnswer d (.ok data)) s = .next t' ∧
      t'.prof.image = s.prof.image.setField 0 w ∧ t'.prof.active = s.prof.image.setField 0 w ∧
      t'.prof.lastApplied = some (highHalf w) ∧ t'.prof.waiting = none ∧ t'.prof.lastRejected = s.prof.lastRejected ∧
      t'.prof.rejectCode = s.prof.rejectCode ∧ t'.prof.rejectField = s.prof.rejectField ∧
      t'.rep.events.getLsbD Event.profileApplied.bit.val = true ∧ t'.clock = s.clock

/-! ## The receive side -/

/-- A free acts only on a cell HELD with its use number; any other finds the cell taken over and does nothing (R31). -/
def Obligations.FreeNeedsTheUseNumber : Prop :=
  ∀ (s : State) (p : Pair) (c : Nat) (use : Half),
    (∀ h, (s.pair p).cells[c]? = some (.held use h) →
      s.freeUse p c use = s.cellFree p c ∧ ((s.freeUse p c use).pair p).cells = (s.pair p).cells.set c .free) ∧
    ((∀ h, (s.pair p).cells[c]? ≠ some (.held use h)) → s.freeUse p c use = s)

/-- What the Landing Unit and the Resequencer do with a receive ring write once memory has answered it OK (R11, R28). On a pair that is
OUT nothing lands: an OWNER write that touches no HELD cell is counted OUT_WRITE. The second header word of a damaged header, short of an
error burst, makes the landing absorbing, sets the cause and is counted (R24, R37, R43, R175). A write that touches a HELD cell voids it:
the cell is FREE, the holder is told, and R30 is then applied (R39). A write that disagrees with the landing in progress, or that starts
the next cell, tears it (R36); an absorbing cell takes writes until the next cell starts (R37); an OWNER write that starts nothing on an
idle cursor is a skip (R38). An OWNER write at offset 0 of the next cell to land in
starts a landing and one at the expected address continues it (R33, R34); its words are taken in order up to the target, where the landing
completes (R34, R35). The Lane Map's check drops the fragment, learns its lane or routes it (R41, R42), and a DATA fragment is admitted at
its distance from the head or dropped with its cell FREE (R50 to R55). An admission sets the position, the cell's holder, the counters and
the pair's horizon; closure is checked when the horizon moved, and head processing runs (R53, R56, R59, R81). -/
def Obligations.DamagedAndUnwantedWritesLandNothing : Prop :=
  (∀ (s : State) (d : Label) (t : DownTx) (u : UpTx) (p : Pair) (c offset : Nat) (words data : List Word),
    s.awaitsWrite d t u → u.handOn = [.ringWrite p .owner c offset words] → (s.pair p).state = .out →
    (∀ use h, (s.pair p).cells[c]? ≠ some (.held use h)) →
    exec (.memoryAnswer d (.ok data)) s = .next ((s.writeAnswered d u).bumpPair p .outWrite)) ∧
  (∀ (s : State) (p : Pair) (first w : Word),
    (s.pair p).cursor = .header first → classifyHeader first w ≠ .none →
    min 255 ((s.pair p).recentErrors + 1) < s.prof.active.errorBurstLimit →
    s.landWord p w = s.modPair p fun r =>
      { (({ r with cursor := .absorbing (classifyHeader first w), lastError := classifyHeader first w }).bump .headerError 1) with
        recentErrors := min 255 (r.recentErrors + 1) }) ∧
  -- The write reaches the Landing Unit as memory's OK is returned.
  (∀ (s : State) (d : Label) (t : DownTx) (u : UpTx) (p : Pair) (cls : RingClass) (c offset : Nat) (words data : List Word),
    s.awaitsWrite d t u → u.handOn = [.ringWrite p cls c offset words] →
    exec (.memoryAnswer d (.ok data)) s = .next ((s.writeAnswered d u).ringArrival p cls c offset words)) ∧
  -- A void, on a pair that is OUT and on one that is not.
  (∀ (s : State) (p : Pair) (cls : RingClass) (c offset : Nat) (words : List Word) (use : Half) (h : Holder),
    (s.pair p).cells[c]? = some (.held use h) →
    let vacated := (s.bumpPair p .voided).vacate p c
    let voided := (vacated.voidNotice p c use h).releaseAdvance p
    (h = .window → vacated.voidNotice p c use h = vacated.windowVoid p c use) ∧
      (h = .delivery → vacated.voidNotice p c use h = vacated.deliveryVoid p c use) ∧
      (vacated.pair p).cells = (s.pair p).cells.set c .free ∧
      (vacated.pair p).count .voided = satAdd32 ((s.pair p).count .voided) 1 ∧
      ((s.pair p).state = .out →
        s.ringArrival p cls c offset words = if cls = .owner then voided.bumpPair p .outWrite else voided) ∧
      ((s.pair p).state ≠ .out →
        s.ringArrival p cls c offset words =
          (let advanced := (voided.endInProgress p cls c offset).releaseAdvance p
           if cls = .owner then advanced.takeOwner p c offset words else advanced))) ∧
  -- Tears, skips, starts and continuations, on a pair that is not OUT, in a cell that is not HELD.
  (∀ (s : State) (p : Pair) (cls : RingClass) (c offset : Nat) (words : List Word),
    let r := s.pair p
    r.state ≠ .out → (∀ use h, r.cells[c]? ≠ some (.held use h)) →
    let advanced := s.releaseAdvance p
    let ends := fun u : State =>
      ((u.modPair p fun x => { x with landed := x.landed + 1, cursor := .idle }).cellFree p (r.cellOf r.landed)).releaseAdvance p
    (∀ n, (n = 1 ∧ ∃ first, r.cursor = .header first) ∨ (∃ hdr m k, r.cursor = .payload n hdr m k) →
      (cls ≠ .owner → c = r.cellOf r.landed → s.ringArrival p cls c offset words = ends (s.bumpPair p .torn)) ∧
      (cls = .owner → (c = r.cellOf r.landed ∧ offset ≠ 4 * n) ∨ (c = r.cellOf (r.landed + 1) ∧ offset = 0) →
        s.ringArrival p cls c offset words = (ends (s.bumpPair p .torn)).takeOwner p c offset words)) ∧
    (∀ cause, r.cursor = .absorbing cause →
      (cls = .owner → c = r.cellOf (r.landed + 1) → offset = 0 →
        s.ringArrival p cls c offset words = (ends s).takeOwner p c offset words) ∧
      (c = r.cellOf r.landed → (c ≠ r.cellOf (r.landed + 1) ∨ offset ≠ 0) →
        s.ringArrival p cls c offset words = advanced)) ∧
    (cls = .owner → r.cursor = .idle → ¬ (c = r.cellOf r.landed ∧ offset = 0 ∧ r.cells[c]? = some .free) →
      s.ringArrival p cls c offset words = advanced.bumpPair p .ringSkip) ∧
    (∀ w ws, cls = .owner → r.cursor = .idle → c = r.cellOf r.landed → offset = 0 → r.cells[c]? = some .free →
      words = w :: ws →
      s.ringArrival p cls c offset words =
        (advanced.modPair p fun x => { (x.setCell c (.landing x.landed)) with cursor := .header w }).landWords p ws) ∧
    (∀ first, cls = .owner → r.cursor = .header first → c = r.cellOf r.landed → offset = 4 →
      s.ringArrival p cls c offset words = advanced.landWords p words) ∧
    (∀ n hdr m k, cls = .owner → r.cursor = .payload n hdr m k → n ≠ 0 → c = r.cellOf r.landed → offset = 4 * n →
      s.ringArrival p cls c offset words = advanced.landWords p words)) ∧
  -- The words of a landing, one by one.
  (∀ (s : State) (p : Pair) (w : Word) (ws : List Word),
    s.landWords p [] = s ∧ s.landWords p (w :: ws) = (s.landWord p w).landWords p ws ∧
    ((s.pair p).cursor = .idle → s.landWords p ws = s) ∧
    (∀ first, (s.pair p).cursor = .header first → classifyHeader first w = .none →
      s.landWord p w = s.modPair p fun x => { x with cursor := .payload 2 (parseHeader first w) true [] }) ∧
    (∀ n hdr m k, (s.pair p).cursor = .payload n hdr m k →
      let matching := m && (hdr.kind != kindProve || proveWordMatches hdr.info hdr.length.toNat (n - 2) w)
      let captured := if hdr.kind = kindStatus ∧ hdr.length = 16 ∧ n - 2 < 4 then k ++ [w] else k
      let ended := s.modPair p fun x => { x with landed := x.landed + 1, cursor := .idle }
      let use := (s.pair p).landed
      (n + 1 ≠ 2 + (hdr.length.toNat + 3) / 4 →
        s.landWord p w = s.modPair p fun x => { x with cursor := .payload (n + 1) hdr matching captured }) ∧
      (n + 1 = 2 + (hdr.length.toNat + 3) / 4 →
        s.landWord p w =
          (ended.bumpPair p (if hdr.kind = kindData then .landedData else if hdr.kind = kindStatus then .landedStatus
            else .landedProve)).laneCheck p
              { hdr := hdr, matching := matching, captured := captured, cell := (s.pair p).cellOf use, use := use }))) ∧
  -- The lane check and the routing of a completed landing.
  (∀ (s : State) (p : Pair) (x : Completed),
    let dropped := fun c : PCounter => (s.bumpPair p c).cellFree p x.cell
    (∀ e, (s.pair p).lane = some e → e.lane = x.hdr.lane → s.laneCheck p x = s.route p x) ∧
    (∀ e, (s.pair p).lane = some e → e.lane ≠ x.hdr.lane → s.laneCheck p x = dropped .wrongLane) ∧
    ((s.pair p).lane = none → (s.pair p).state = .down → (∀ q e, (s.pair q).lane = some e → e.lane ≠ x.hdr.lane) →
      s.laneCheck p x = (s.modPair p fun r => { r with lane := some { lane := x.hdr.lane, source := .learned } }).route p x) ∧
    ((s.pair p).lane = none → (s.pair p).state = .down → (∃ q e, (s.pair q).lane = some e ∧ e.lane = x.hdr.lane) →
      s.laneCheck p x = ((dropped .laneConflict).modPair p fun r => { r with reason := .laneConflict }).raise .laneConflict) ∧
    ((s.pair p).lane = none → (s.pair p).state ≠ .down → s.laneCheck p x = dropped .noLane) ∧
    (x.hdr.kind = kindData →
      s.route p x = (s.arrive p).admitData
        { pair := p, cell := x.cell, use := x.use, generation := x.hdr.generation, sequence := x.hdr.sequence,
          length := x.hdr.length.toNat, s := x.hdr.s, e := x.hdr.e, time := s.clock.time }) ∧
    (x.hdr.kind = kindStatus → s.route p x = (s.cellFree p x.cell).takeStatus p x.payload) ∧
    (x.hdr.kind = kindProve → s.route p x = (s.cellFree p x.cell).takeProve p (x.hdr.length == 256 && x.matching))) ∧
  -- Admission by pair state, generation and distance.
  (∀ (s : State) (a : DataRecord),
    let n := distance a.sequence s.reseq.head
    let dropped := fun c : PCounter => (s.bumpPair a.pair c).cellFree a.pair a.cell
    ((s.pair a.pair).state ≠ .active → s.admitData a = dropped .offState) ∧
    ((s.pair a.pair).state = .active → s.reseq.synced = true → newer a.generation s.reseq.generation = true →
      s.admitData a = (s.receiveRestart a.generation).placeData a) ∧
    ((s.pair a.pair).state = .active → s.reseq.synced = true → newer a.generation s.reseq.generation = false →
      a.generation ≠ s.reseq.generation → s.admitData a = dropped .staleGeneration) ∧
    ((s.pair a.pair).state = .active → s.reseq.synced = true → newer a.generation s.reseq.generation = false →
      a.generation = s.reseq.generation → s.admitData a = s.placeData a) ∧
    ((s.pair a.pair).state = .active → s.reseq.synced = false →
      s.admitData a = State.placeData
        { s with reseq := { s.reseq with synced := true, generation := a.generation, head := a.sequence } } a) ∧
    (∀ h : n < 512, s.reseq.window[n] = .empty → s.placeData a = s.enterWindow a n) ∧
    (∀ (h : n < 512) (r : Landed), s.reseq.window[n] = .landed r → s.placeData a = dropped .duplicate) ∧
    (∀ h : n < 512, s.reseq.window[n] = .lost → s.placeData a = dropped .late) ∧
    (512 ≤ n → n < 32768 → s.reseq.blocked = true → s.placeData a = dropped .windowFull) ∧
    (512 ≤ n → n < 32768 → s.reseq.blocked = false → s.placeData a = s.forcedAdvance a n) ∧
    (32768 ≤ n → s.placeData a = dropped .stale)) ∧
  -- What an admission at position n leaves.
  (∀ (s : State) (a : DataRecord) (n : Nat), n < 512 →
    let t := s.landAt a n
    let place := fun x : Half => distance x (s.reseq.head - 1)
    (∀ (i : Nat) (h : i < 512), t.reseq.window[i] =
      if i = n then
        .landed { pair := a.pair, cell := a.cell, use := a.use, length := a.length, s := a.s, e := a.e, time := a.time }
      else s.reseq.window[i]) ∧
    t.reseq.head = s.reseq.head ∧ (∀ q, q ≠ a.pair → t.pair q = s.pair q) ∧
    (t.pair a.pair).cells = (s.pair a.pair).cells.set a.cell (.held a.use .window) ∧
    (t.pair a.pair).count .admitted = satAdd32 ((s.pair a.pair).count .admitted) 1 ∧
    ((s.pair a.pair).horizon = none → (t.pair a.pair).horizon = some a.sequence ∧
      (t.pair a.pair).count .orderSlip = (s.pair a.pair).count .orderSlip) ∧
    (∀ h, (s.pair a.pair).horizon = some h →
      (place h < place a.sequence → (t.pair a.pair).horizon = some a.sequence) ∧
      (place a.sequence ≤ place h → (t.pair a.pair).horizon = some h) ∧
      (t.pair a.pair).count .orderSlip =
        if place a.sequence < place h then satAdd32 ((s.pair a.pair).count .orderSlip) 1
        else (s.pair a.pair).count .orderSlip) ∧
    ((t.pair a.pair).horizon = (s.pair a.pair).horizon → s.enterWindow a n = t.settle) ∧
    ((t.pair a.pair).horizon ≠ (s.pair a.pair).horizon → s.enterWindow a n = t.close.settle))

/-- A LOST head is passed: the head moves on by 1, the lost-sequence tally and LOST_SEQUENCE go up by 1, and no frame is discarded (R60). -/
def Obligations.LostHeadPassed : Prop :=
  ∀ (s : State) (n : Nat), s.reseq.window[0] = .lost →
    ∃ t, State.headRun (n + 1) s = State.headRun n t ∧ t.reseq.head = s.reseq.head + 1 ∧
      (∀ (k : Nat) (h : k < 511), t.reseq.window[k] = s.reseq.window[k + 1]) ∧ t.reseq.window[511] = .empty ∧
      t.reseq.lostTally = satAdd16 s.reseq.lostTally 1 ∧ t.reseq.discardedTally = s.reseq.discardedTally ∧
      t.count .lostSequence = satAdd32 (s.count .lostSequence) 1 ∧
      (∀ c, c ≠ .lostSequence → t.count c = s.count c) ∧ t.deliv = s.deliv

/-- A LANDED head without S is an orphan, with E or without: its cell is freed by its use number, ORPHAN goes up by 1, the head moves on
by 1, and neither tally changes (R61). -/
def Obligations.OrphanPassed : Prop :=
  ∀ (s : State) (n : Nat) (r : Landed), s.reseq.window[0] = .landed r → r.s = false →
    ∃ t, State.headRun (n + 1) s = State.headRun n t ∧ t.reseq.head = s.reseq.head + 1 ∧
      (∀ (k : Nat) (h : k < 511), t.reseq.window[k] = s.reseq.window[k + 1]) ∧ t.reseq.window[511] = .empty ∧
      t.reseq.lostTally = s.reseq.lostTally ∧ t.reseq.discardedTally = s.reseq.discardedTally ∧
      t.count .orphan = satAdd32 (s.count .orphan) 1 ∧ (∀ c, c ≠ .orphan → t.count c = s.count c) ∧
      (∀ p, (t.pair p).cells = ((s.freeUse r.pair r.cell r.use).pair p).cells ∧
        (t.pair p).released = ((s.freeUse r.pair r.cell r.use).pair p).released) ∧ t.deliv = s.deliv

/-- ROOM_NOTICE runs head processing: a one-fragment frame at the head that had been blocked is handed to a queue with room, the flag is
cleared, and the tallies return to 0 (R64, R65, R97, R111). -/
def Obligations.RoomNoticeHandsOffTheFrame : Prop :=
  ∀ (s : State) (r : Landed), s.pins.resetN = true → s.deliv.roomNotices ≠ 0 → s.deliv.queue.length < 64 →
    s.reseq.window[0] = .landed r → r.s = true → r.e = true → s.reseq.window[1] = .empty →
    ∃ t f, exec .roomNotice s = .next t ∧ t.deliv.queue = s.deliv.queue ++ [f] ∧ f.count = s.deliv.producer ∧
      f.firstSeq = s.reseq.head ∧ f.length = r.length ∧ f.generation = s.reseq.generation ∧
      t.deliv.producer = s.deliv.producer + 1 ∧ t.deliv.roomNotices = s.deliv.roomNotices - 1 ∧
      t.reseq.head = s.reseq.head + 1 ∧ t.reseq.blocked = false ∧ t.reseq.lostTally = 0 ∧ t.reseq.discardedTally = 0 ∧
      t.subm = s.subm ∧ t.dist = s.dist ∧ t.prof = s.prof

/-- The skew timer's expiry, once its deadline is reached: every EMPTY position before the reference becomes LOST and no other position
changes, SKEW_EXPIRY goes up by 1 and SKEW_LOST by the positions so declared, GAP_LOSS is raised, head processing runs and the timer is
aimed anew. Before the deadline the step does not happen (R59, R75 to R77). -/
def Obligations.SkewExpiryDeclares : Prop :=
  ∀ (s : State) (k : Skew), s.pins.resetN = true → s.reseq.skew = some k →
    let n := distance k.reference s.reseq.head
    (∀ (i : Nat) (h : i < 512), (s.declare n).reseq.window[i] =
      if i < n ∧ s.reseq.window[i] = .empty then .lost else s.reseq.window[i]) ∧
    (∃ w, s.declare n = { s with reseq := { s.reseq with window := w } }) ∧
    (reached s.clock.time k.deadline = true →
      exec .skewTimerExpiry s =
          .next ((((s.declare n).bump .skewExpiry).bump .skewLost (emptyBelow n s.positions)).raise .gapLoss).settle ∧
        ∃ t, exec .skewTimerExpiry s = .next t ∧ t.count .skewExpiry = satAdd32 (s.count .skewExpiry) 1 ∧
          t.count .skewLost =
            satAdd32 (s.count .skewLost) (emptyBelow (distance k.reference s.reseq.head) s.positions) ∧
          t.rep.events.getLsbD Event.gapLoss.bit.val = true ∧ t.subm = s.subm ∧ t.dist = s.dist ∧ t.prof = s.prof ∧
          t.clock = s.clock ∧ t.reseq.skew = t.aimed) ∧
    (reached s.clock.time k.deadline = false → exec .skewTimerExpiry s = .next s)

/-- The answer of an accepted read's only piece: OK with the piece's words, or ERROR with VOID_READ when an entry it covers has become
void; a failed piece answers ERROR with READ_FAULT. Each answer drops the pin (R106 to R108). -/
def Obligations.PieceAnswersTheRead : Prop :=
  ∀ (s : State) (d : Label) (t : DownTx) (u : UpTx) (r : Redirect) (p : Piece) (data : List Word),
    s.awaits d t (.piece u.label false) → s.upTx u.label = some u → u.stage = .redirected r → r.pieces = [p] →
    r.faulted = false →
    let ended : Redirect := { r with pieces := [{ p with stage := .ended data }] }
    let failed : Redirect := { r with pieces := [{ p with stage := .failed }], faulted := true }
    let onOk := (s.setDown d none).setStage u.label (.redirected ended)
    let onError := ((((s.setDown d none).bump .memoryError).raise .pathFault).bump .readFault).setStage u.label
      (.redirected failed)
    (t.kind = .read → data.length = t.count → s.spoilt r u.count = false →
      exec (.pieceEnd d (.ok data)) s =
        .next ((onOk.closeUp (okResponse u.label u.tag (ended.data u.count))).dropPin r.frame)) ∧
    (t.kind = .read → data.length = t.count → s.spoilt r u.count = true →
      exec (.pieceEnd d (.ok data)) s =
        .next ((((onOk.closeUp (errorResponse u.label u.tag)).bump .voidRead).raise .strayRead).dropPin r.frame)) ∧
    (s.spoilt r u.count = false →
      exec (.pieceEnd d .error) s = .next ((onError.closeUp (errorResponse u.label u.tag)).dropPin r.frame))

/-! ## The transmit side -/

/-- FETCH_OFFER takes the next submission to be fetched; FRAME_SELECTION makes the selected entry the frame being cut; a changed ring that
waits is taken into use with every count at 0 (R122, R126, R128, R132, R146). -/
def Obligations.SubmissionUnitSteps : Prop :=
  ∀ s : State, s.pins.resetN = true →
    (∀ g, s.subm.ring = some g → s.subm.fetched ≠ s.subm.produced → s.subm.fetch = none → s.subm.queue.length < 32 →
      exec .fetchOffer s =
        .next (((s.modSubm fun u =>
          { u with fetch := some { number := u.fetched, slot := g.base + 16 * (u.fetched.toNat % g.size), issued := false },
                   fetched := u.fetched + 1 }).recount).bump .fetched)) ∧
    (∀ e, s.dist.frame = none → s.dist.dropping = false → s.subm.select = some e →
      exec .frameSelection s =
        .next ((s.modEntry e.number fun x => { x with cutting := some s.clock.time }).modDist fun x =>
          { x with frame := some { buffer := e.buffer.toNat, length := e.length, number := e.number, bytesCut := 0,
                                   fragmentsCut := 0 } })) ∧
    (s.subm.ringWaiting = true → s.subm.queue = [] → s.subm.fetch = none → s.subm.fetched = s.subm.produced →
      exec .submissionRingTakeIntoUse s =
        .next (s.modSubm fun u =>
          { u with ring := s.prof.active.submissionRing.map (fun x => ⟨x.1, x.2⟩), ringWaiting := false, produced := 0,
                   fetched := 0, completed := 0 }))

/-- A fetched record: a good one joins the Transmit Queue WAITING, a bad one completes BAD_RECORD (R123, R125, R131). -/
def Obligations.FetchedRecordTaken : Prop :=
  ∀ (s : State) (d : Label) (t : DownTx) (f : Fetch) (w0 w1 w2 : Word),
    s.awaits d t .fetch → t.kind = .read → t.count = 3 → s.subm.fetch = some f →
    let r := parseSubmission w0 w1 w2
    let free := (s.setDown d none).modSubm fun u => { u with fetch := none }
    (∀ c, s.checkRecord r = some c →
      exec (.fetchAnswer d (.ok [w0, w1, w2])) s =
        .next ((free.modSubm fun u => { u with queue := u.queue ++
          [{ number := f.number, buffer := r.buffer, length := r.length, cls := c, hostTag := r.hostTag,
             complAddr := f.slot + 12, fetchTime := s.clock.time, bytesCut := 0, published := 0, cutting := none,
             releaseAs := none }] }).recount)) ∧
    (s.checkRecord r = none →
      exec (.fetchAnswer d (.ok [w0, w1, w2])) s =
        .next (((((free.recount).post (.completion (f.slot + 12)) [completionWord .badRecord 0 r.hostTag]).raise
          .submitDone)).bump .badRecord))

/-- A fetch that memory answers ERROR: PATH_FAULT is raised, the fetch in flight becomes absent, the submission completes FAULT with host
tag 0 and no fragment, FETCH_FAULT goes up by 1, and no queue entry is taken (R124). -/
def Obligations.FetchFailureCompletesFault : Prop :=
  ∀ (s : State) (d : Label) (us : Nat) (t : DownTx) (f : Fetch), s.awaits d t .fetch → s.subm.fetch = some f →
    let completed := fun u : State =>
      Host.Outcome.next ((((((u.modSubm fun x => { x with fetch := none }).recount).post (.completion (f.slot + 12))
        [completionWord .fault 0 0]).raise .submitDone).bump .fault).bump .fetchFault)
    exec (.fetchAnswer d .error) s = completed (((s.setDown d none).bump .memoryError).raise .pathFault) ∧
    (t.issuedAt + t.limit ≤ us →
      exec (.responseLimitExpiry d us) s =
        completed (((s.setDown d (some { t with timedOut := true })).bump .pathTimeout).raise .pathFault))

/-- AGE_EXPIRY completes a WAITING entry EXPIRED once its age deadline is reached; STALL_EXPIRY releases the frame being cut once its stall
deadline is; FRAME_RELEASED completes it with the status of its release (R127 to R131, R155). -/
def Obligations.FrameExpiries : Prop :=
  ∀ s : State, s.pins.resetN = true →
    (∀ e, s.subm.queue.find? (fun x => x.number == e.number && s.aged x) = some e →
      exec (.ageExpiry e.number) s = .next (s.completeEntry e .expired)) ∧
    (∀ e f b, s.subm.cuttingEntry = some e → e.cutting = some b →
      reached s.clock.time (b + s.prof.active.transmitAge) = true → s.dist.frame = some f → s.dist.dropping = false →
      s.dist.copier = none →
      exec .stallExpiry s =
        .next ((s.modEntry f.number fun x => { x with releaseAs := some .stalled }).modDist fun x =>
          { x with dropping := true, toReplace := none })) ∧
    (∀ e f st, s.dist.frame = some f → s.dist.dropping = true → s.dist.copier = none →
      s.subm.queue.find? (fun x => x.number == f.number) = some e → e.releaseAs = some st →
      exec .frameReleased s =
        .next ((s.modDist fun x => { x with frame := none, dropping := false, toReplace := none }).completeEntry e st))

/-- A pending target is taken into use once its test passes: every pair has its new allocation, the pool's base and size are recorded, and
RECOMPUTE is counted (R138, R139). -/
def Obligations.RecomputeTakenIntoUse : Prop :=
  ∀ (s : State) (g : AllocTarget), s.pins.resetN = true → s.dist.target = some g →
    (s.targetReady = true →
      ∃ t, exec .recomputeTakeIntoUse s = .next t ∧ (∀ p : Pair, (t.pair p).alloc = g.allocs[p.val]) ∧
        t.dist.target = none ∧ t.dist.poolBase = g.poolBase ∧ t.dist.poolSize = g.poolSize ∧
        t.count .recompute = satAdd32 (s.count .recompute) 1 ∧ t.prof = s.prof ∧ t.subm = s.subm) ∧
    (s.targetReady = false → exec .recomputeTakeIntoUse s = .next s)

/-- DATA_PLACEMENT takes a new fragment with the next sequence number onto the pair the Credit Arbiter chooses, charging it; REPLACED places
the waiting fragment with the number it has, re-cut where the pair's max payload is smaller (R145, R147, R148, R153). -/
def Obligations.DataPlaced : Prop :=
  ∀ (s : State) (c : Cut) (p : Pair) (fr : CutFrame), s.pins.resetN = true →
    (State.replenish c 16 s).choose c = some p → s.dist.frame = some fr →
    let m := s.prof.active.maxPayload p
    let credit := ((State.replenish c 16 s).pair p).credit
    (s.nextWork = .data c →
      ∃ t w f, exec .dataPlacement s = .next t ∧ t.dist.copier = some w ∧ w.kind = .data f ∧ w.pair = p ∧
        f.sequence = s.dist.nextSeq ∧ f.first = c.first ∧ f.length = min c.limit m ∧ (f.s = true ↔ c.first = 0) ∧
        (f.e = true ↔ min c.limit m = c.left) ∧ t.dist.nextSeq = s.dist.nextSeq + 1 ∧
        t.dist.frame = some { fr with bytesCut := fr.bytesCut + f.length, fragmentsCut := fr.fragmentsCut + 1 } ∧
        (t.pair p).fill = (s.pair p).fill + 1 ∧ (t.pair p).credit = credit - Int.ofNat f.length ∧
        (t.pair p).produced = (s.pair p).produced ∧ t.reseq = s.reseq ∧ t.deliv = s.deliv ∧ t.path = s.path) ∧
    (∀ g, s.nextWork = .replace c → s.dist.toReplace = some g →
      ∃ t w f, exec .replaced s = .next t ∧ t.dist.copier = some w ∧ w.kind = .data f ∧ w.pair = p ∧
        f.sequence = g.sequence ∧ f.first = c.first ∧ f.length = min c.limit m ∧ t.dist.nextSeq = s.dist.nextSeq ∧
        t.dist.toReplace = none ∧ t.dist.frame = some { fr with bytesCut := fr.bytesCut - (g.length - f.length) } ∧
        (t.pair p).fill = (s.pair p).fill + 1 ∧ (t.pair p).credit = credit - Int.ofNat f.length ∧
        t.count .replaced = satAdd32 (s.count .replaced) 1 ∧
        t.count .recut = (if g.length - f.length = 0 then s.count .recut else satAdd32 (s.count .recut) 1))

/-- STATUS_PLACEMENT and PROVE_PLACEMENT take control work onto their pair: the fragment's words as R157 and R158 give them, a cell of the
pair FILLING, the control turn moved on; a STATUS clears its due flag, a PROVE records its time (R149, R156 to R158). -/
def Obligations.ControlPlaced : Prop :=
  ∀ (s : State) (p : Pair), s.pins.resetN = true →
    let spoilt := s.prof.active.injectContinuous p || (s.pair p).injectOnce
    let g := s.dist.generation.getD 0
    let i := (s.pair p).proveIndex
    let work := fun (k : WorkKind) (words : List Word) =>
      ({ kind := k, pair := p, cellBase := s.nextCell p, words := words, source := 0, done := 0,
         phase := .toWrite (words.take 16), abandoned := false, detached := false, spoilt := spoilt } : Work)
    (s.nextWork = .status p →
      exec .statusPlacement s =
        .next ((s.modPair p fun r => { r with fill := r.fill + 1, statusDue := false }).modDist fun x =>
          { x with copier := some (work .status
              (buildHeader kindStatus false false p g 0 16 0 spoilt ++ buildStatus (s.statusPayload p))),
                   controlTurn := p + 1 })) ∧
    (s.nextWork = .prove p →
      exec .provePlacement s =
        .next ((s.modPair p fun r => { r with fill := r.fill + 1, lastProve := some s.clock.time }).modDist fun x =>
          { x with copier := some (work .prove (buildHeader kindProve false false p g 0 256 i spoilt ++ buildProve i)),
                   controlTurn := p + 1 }))

/-- COPIER_READ_ANSWER readies the chunk, its bytes past the length zero, or is a copy fault that completes the frame FAULT;
COPIER_WRITE_ANSWER goes on with the next chunk, publishes a finished STATUS, or counts CONTROL_FAULT (R150, R151, R154, R159). -/
def Obligations.CopierAnswers : Prop :=
  ∀ (s : State) (d : Label) (t : DownTx) (w : Work) (data : List Word), s.dist.copier = some w → w.abandoned = false →
    (∀ f, w.kind = .data f → s.awaits d t .copierRead → t.kind = .read → data.length = t.count →
      exec (.copierReadAnswer d (.ok data)) s =
        .next ((s.setDown d none).modDist fun x =>
          { x with copier := some { w with phase := .toWrite (keepBytesList data (f.length - 4 * w.done)) } })) ∧
    (∀ f fr, w.kind = .data f → s.awaits d t .copierRead → s.dist.frame = some fr →
      exec (.copierReadAnswer d .error) s =
        .next ((((((s.setDown d none).bump .memoryError).raise .pathFault).giveUpCell w).bump .copyFault).closeFrame fr.number
          .fault)) ∧
    (∀ f n, w.kind = .data f → w.phase = .writing n → w.done + n < wordsFor f.length → s.awaits d t .copierWrite →
      t.kind = .write →
      exec (.copierWriteAnswer d (.ok data)) s =
        .next ((s.setDown d none).modDist fun x => { x with copier := some { w with done := w.done + n, phase := .toRead } })) ∧
    (∀ n, w.kind = .status → w.phase = .writing n → w.words.length ≤ w.done + n → w.spoilt = false →
      s.awaits d t .copierWrite → t.kind = .write →
      exec (.copierWriteAnswer d (.ok data)) s =
        .next (((((s.setDown d none).modPair w.pair fun r => { r with produced := r.produced + 1 }).modDist fun x =>
          { x with copier := none }).postCount (txProducerOffset w.pair) ((s.pair w.pair).produced + 1)).bumpPair w.pair
            .txStatus)) ∧
    (w.kind = .status → w.detached = false → s.awaits d t .copierWrite →
      exec (.copierWriteAnswer d .error) s =
        .next ((((((s.setDown d none).bump .memoryError).raise .pathFault).modPair w.pair fun r =>
          { r with fill := r.fill - 1 }).modDist fun x => { x with copier := none }).bumpPair w.pair .controlFault))

/-! ## The pairs -/

/-- STATUS_TIMER_EXPIRY starts the timer again, sets the due flag (counting STATUS_SKIPPED when it was set) and clears the recent header
errors; RETRY_HOLDOFF_EXPIRY only removes the state deadline; QUARANTINE_FACTOR_RESET sets the factor to 0 after 600 000 ms ACTIVE
(R156, R169, R175, R176). That a status timer starts again from the time its expiry is taken, not from its deadline, is the model's reading
(log entry 40). -/
def Obligations.PairTimers : Prop :=
  ∀ (s : State) (p : Pair) (at_ : Time), s.pins.resetN = true → reached s.clock.time at_ = true →
    ((s.pair p).statusTimer = some at_ → (s.pair p).statusDue = false →
      exec (.statusTimerExpiry p) s = .next (s.modPair p fun r =>
        { r with statusTimer := some (s.clock.time + s.prof.active.statusInterval), statusDue := true, recentErrors := 0 })) ∧
    ((s.pair p).statusTimer = some at_ → (s.pair p).statusDue = true →
      exec (.statusTimerExpiry p) s = .next (s.modPair p fun r =>
        ({ r with statusTimer := some (s.clock.time + s.prof.active.statusInterval), recentErrors := 0 }).bump
          .statusSkipped 1)) ∧
    ((s.pair p).state = .down → (s.pair p).deadline = some at_ →
      exec (.retryHoldoffExpiry p) s = .next (s.modPair p fun r => { r with deadline := none })) ∧
    (∀ e, (s.pair p).state = .active → (s.pair p).entered = some e → e + 600000 = at_ →
      exec (.quarantineFactorReset p) s = .next (s.modPair p fun r => { r with factor := 0 }))

/-- A LOST pair whose state deadline is reached enters DOWN with reason HOLDOFF (NO_CELLS with no cells) and forgets a learned lane; on a
LOST pair arrivals restart and start nothing, and header errors are counted and take no burst (R178, with R168). -/
def Obligations.LossHoldoffEnds : Prop :=
  ∀ (s : State) (p : Pair), (s.pair p).state = .lost →
    (∀ at_, s.pins.resetN = true → (s.pair p).deadline = some at_ → reached s.clock.time at_ = true →
      ∃ t, exec (.lossHoldoffExpiry p) s = .next t ∧ (t.pair p).state = .down ∧
        (t.pair p).reason = (if (s.pair p).alloc.count = 0 then .noCells else .holdoff) ∧
        (t.pair p).silence = none ∧ (t.pair p).entered = none ∧ (t.pair p).deadline = none ∧
        (t.pair p).lane = ((s.pair p).forgetLearned).lane ∧ (t.pair p).recentErrors = (s.pair p).recentErrors ∧
        (t.pair p).statusDue = true ∧ (t.pair p).flaps = (s.pair p).flaps ∧ (t.pair p).factor = (s.pair p).factor ∧
        (t.pair p).count .stateChange = satAdd32 ((s.pair p).count .stateChange) 1 ∧
        t.rep.events.getLsbD Event.pairChange.bit.val = true ∧ t.reseq = s.reseq ∧ t.deliv = s.deliv ∧ t.subm = s.subm ∧
        ∀ q, q ≠ p → (t.pair q).state = (s.pair q).state ∧ (t.pair q).lane = (s.pair q).lane) ∧
    s.arrive p = s ∧
    s.headerErrorNotice p = s.modPair p fun r => { r with recentErrors := min 255 (r.recentErrors + 1) }

/-- The deadlines of a pair; an entry into DOWN has reason NO_CELLS where the pair has no cells (R168), else as follows.
PENALTY_END: a QUARANTINE pair enters DOWN with reason HOLDOFF (R179). PROVING_PERIOD_END: a record that passes makes the pair ACTIVE;
one that fails puts it DOWN with reason PROVING_FAILED and the retry holdoff (R173, R176). SILENCE_EXPIRY: a PROVING pair enters DOWN
with reason SILENT; an ACTIVE pair is lost, to LOST or to QUARANTINE (R174, R177). -/
def Obligations.PairDeadlines : Prop :=
  ∀ (s : State) (p : Pair) (at_ : Time), s.pins.resetN = true → reached s.clock.time at_ = true →
    let r := s.pair p
    let reason := fun x : Reason => if r.alloc.count = 0 then Reason.noCells else x
    (r.state = .quarantine → r.deadline = some at_ →
      ∃ t, exec (.penaltyEnd p) s = .next t ∧ (t.pair p).state = .down ∧ (t.pair p).reason = reason .holdoff ∧
        (t.pair p).deadline = none ∧ (t.pair p).factor = r.factor) ∧
    (r.state = .proving → r.deadline = some at_ → s.prof.active.provingMinimum ≤ r.proving.received.toNat →
      r.proving.errored.toNat ≤ s.prof.active.provingTolerance →
      ∃ t, exec (.provingPeriodEnd p) s = .next t ∧ (t.pair p).state = .active ∧ (t.pair p).reason = .none ∧
        (t.pair p).proving.outcome = .pass ∧ (t.pair p).entered = some s.clock.time ∧ (t.pair p).silence = r.silence ∧
        (t.pair p).count .activations = satAdd32 (r.count .activations) 1) ∧
    (r.state = .proving → r.deadline = some at_ →
      r.proving.received.toNat < s.prof.active.provingMinimum ∨ s.prof.active.provingTolerance < r.proving.errored.toNat →
      ∃ t, exec (.provingPeriodEnd p) s = .next t ∧ (t.pair p).state = .down ∧ (t.pair p).reason = reason .provingFailed ∧
        (t.pair p).proving.outcome = .fail ∧ (t.pair p).deadline = some (s.clock.time + s.prof.active.retryHoldoff) ∧
        (t.pair p).count .provingFail = satAdd32 (r.count .provingFail) 1) ∧
    (r.state = .proving → r.silence = some at_ →
      ∃ t, exec (.silenceExpiry p) s = .next t ∧ (t.pair p).state = .down ∧ (t.pair p).reason = reason .silent ∧
        (t.pair p).proving.outcome = .fail ∧ (t.pair p).deadline = some (s.clock.time + s.prof.active.retryHoldoff) ∧
        (t.pair p).count .silenceExpiry = satAdd32 (r.count .silenceExpiry) 1) ∧
    (r.state = .active → r.silence = some at_ →
      let flaps := pushFlap r.flaps s.clock.time
      ∃ t, exec (.silenceExpiry p) s = .next t ∧ (t.pair p).silence = none ∧ (t.pair p).entered = none ∧
        (t.pair p).credit = 0 ∧ (t.pair p).horizon = none ∧
        (flapsFull flaps s.prof.active.flapWindow = false →
          (t.pair p).state = .lost ∧ (t.pair p).flaps = flaps ∧
            (t.pair p).deadline = some (s.clock.time + s.prof.active.lossHoldoff)) ∧
        (flapsFull flaps s.prof.active.flapWindow = true →
          (t.pair p).state = .quarantine ∧ (t.pair p).flaps = [] ∧ (t.pair p).factor = min 4 (r.factor + 1) ∧
            (t.pair p).deadline = some (s.clock.time + penalty s.prof.active.quarantineBase r.factor)))

/-- A drained notice taken by a pair OUT with reason DRAINING starts it: every count is 0, its cells are FREE, and it enters DOWN, or HELD
under the surge stop; any other pair ignores the notice (R44, R142, R167). -/
def Obligations.DrainedPairStarts : Prop :=
  ∀ (s : State) (p : Pair), s.pins.resetN = true → (s.pair p).drained = true →
    ((s.pair p).state = .out → (s.pair p).reason = .draining →
      ∃ t, exec (.drainedPairStart p) s = .next t ∧
        (t.pair p).state = (if s.sup.stopView then .held else .down) ∧ (t.pair p).landed = 0 ∧ (t.pair p).released = 0 ∧
        (t.pair p).cells = List.replicate (s.pair p).cells.length .free ∧ (t.pair p).fill = 0 ∧ (t.pair p).produced = 0 ∧
        (t.pair p).consumed = 0 ∧ (t.pair p).alloc = (s.pair p).alloc ∧ t.reseq = s.reseq ∧ t.deliv = s.deliv) ∧
    (¬ ((s.pair p).state = .out ∧ (s.pair p).reason = .draining) →
      exec (.drainedPairStart p) s = .next (s.modPair p fun r => { r with drained := false }))

/-! ## Surge, profile and time -/

/-- A falling edge of SURGE_N sets the flag, raises SURGE and is counted; the stop comes into force exactly when the enable is on. A rising
edge changes nothing but the level (R189, section 9.1). -/
def Obligations.SurgeEdges : Prop :=
  ∀ s : State,
    (s.pins.resetN = true → s.pins.surgeN = true →
      ∃ t, exec .surgeFallingEdge s = .next t ∧ t.pins.surgeN = false ∧ t.surge.flag = true ∧
        t.surge.stop = s.prof.active.surgeEnable ∧ t.rep.events.getLsbD Event.surge.bit.val = true ∧
        t.count .surgeEdge = satAdd32 (s.count .surgeEdge) 1 ∧ t.prof = s.prof ∧ t.subm = s.subm ∧ t.clock = s.clock ∧
        (s.prof.active.surgeEnable = true → s.surge.stop = false →
          t.sup.stopView = true ∧ ∀ p, (t.pair p).state = if (s.pair p).state = .out then .out else .held) ∧
        (s.prof.active.surgeEnable = s.surge.stop → t.pairs = s.pairs ∧ t.sup = s.sup)) ∧
    exec .surgeRisingEdge s = .next { s with pins := { s.pins with surgeN := true } }

/-- An acknowledge is judged by the flag and the level of SURGE_N: idle, accepted (the flag cleared, the stop ended), or refused with SURGE
raised again (R192). -/
def Obligations.AcknowledgeJudged : Prop :=
  ∀ s : State,
    (s.surge.flag = false → s.acknowledge = s.bump .ackIdle) ∧
    (s.surge.flag = true → s.pins.surgeN = false → s.acknowledge = (s.raise .surge).bump .ackRefused) ∧
    (s.surge.flag = true → s.pins.surgeN = true →
      s.acknowledge.surge = { flag := false, stop := false } ∧
        s.acknowledge.count .ackAccepted = satAdd32 (s.count .ackAccepted) 1 ∧
        (s.surge.stop = false →
          s.acknowledge = State.bump { s with surge := { flag := false, stop := false } } .ackAccepted) ∧
        (s.surge.stop = true → s.acknowledge.sup.stopView = false ∧
          ∀ p, (s.acknowledge.pair p).state = if (s.pair p).state = .held then .down else (s.pair p).state))

/-- EPOCH_BOUNDARY, the clock source's two changes and the millisecond tick (R205 to R207). -/
def Obligations.TimebaseSteps : Prop :=
  ∀ s : State, s.pins.resetN = true →
    let crossed : State := { s with clock := { s.clock with epochCount := s.clock.epochCount + 1,
                                                            nextEpoch := s.clock.nextEpoch + s.prof.active.epochLength } }
    (reached s.clock.time s.clock.nextEpoch = true → s.prof.waiting = none → exec .epochBoundary s = .next crossed) ∧
    (∀ n, reached s.clock.time s.clock.nextEpoch = true → s.prof.waiting = some n →
      exec .epochBoundary s = .next ((crossed.modProf fun x => { x with waiting := none }).applyCommit n)) ∧
    (reached s.clock.time s.clock.nextEpoch = false → exec .epochBoundary s = .next s) ∧
    (s.clock.source = .internal →
      exec .referenceAcquired s =
        .next ((State.raise { s with clock := { s.clock with source := .reference } } .clockFallback).bump .clockSwitch)) ∧
    (s.clock.source = .reference →
      exec .referenceLost s =
        .next ((State.raise { s with clock := { s.clock with source := .internal } } .clockFallback).bump .clockSwitch)) ∧
    exec .millisecondTick s = .next { s with clock := { s.clock with time := s.clock.time + 1 } }

/-! ## Events and the report -/

/-- An event that is raised sets its flag and joins the fresh and after-issue sets, and ATTN_N is recomputed; the other flags, the
counters and the pairs are unchanged (R208, R209). -/
def Obligations.RaiseSetsTheFlag : Prop :=
  ∀ (s : State) (e : Event),
    (s.raise e).rep.events = s.rep.events ||| e.mask ∧ (s.raise e).rep.fresh = s.rep.fresh ||| e.mask ∧
      (s.raise e).rep.afterIssue = s.rep.afterIssue ||| e.mask ∧ e.mask.getLsbD e.bit.val = true ∧
      ((s.raise e).pins.attn = true ↔ (s.rep.events ||| e.mask) &&& s.prof.active.eventEnables ≠ 0) ∧
      (s.raise e).counters = s.counters ∧ (s.raise e).pairs = s.pairs ∧ (s.raise e).prof = s.prof ∧
      (s.prof.active.reportBase = none → (s.raise e).path = s.path)

/-- A Pointer Writer write that memory answers OK only ends; one answered ERROR raises PATH_FAULT and is not reposted. An Event Word write
answered OK makes the fresh set the after-issue set, posting again where the repost mark is set (R16, R209). A posting to a target with no
entry joins the list's tail; to a target with one, a delivery record or a completion word keeps its place with the new value, and a Count
Block word or the Event Word leaves its place and joins the tail (R16). That a completion word joins the tail with 256 waiting too is the
model's choice (log entry 41). -/
def Obligations.PointerAndEventWordAnswers : Prop :=
  ∀ (s : State) (d : Label) (t : DownTx) (data : List Word), t.kind = .write →
    (s.awaits d t .pointer →
      exec (.pointerWriteAnswer d (.ok data)) s = .next (s.setDown d none) ∧
      exec (.pointerWriteAnswer d .error) s = .next (((s.setDown d none).bump .memoryError).raise .pathFault)) ∧
    (s.awaits d t .eventWord → s.rep.repost = false →
      exec (.eventWordWriteAnswer d (.ok data)) s =
        .next { (s.setDown d none) with rep := { s.rep with fresh := s.rep.afterIssue } }) ∧
    (s.awaits d t .eventWord → s.rep.repost = true →
      exec (.eventWordWriteAnswer d (.ok data)) s =
        .next (State.postEventWord { (s.setDown d none) with rep := { s.rep with fresh := s.rep.afterIssue, repost := false } })) ∧
    ∀ (x : Target) (v : List Word),
      ((∀ e ∈ s.path.pointer, e.target ≠ x) →
        s.post x v = s.setPointer (s.path.pointer ++ [{ target := x, value := v }])) ∧
      ((∃ e ∈ s.path.pointer, e.target = x) →
        ((∃ slot, x = .deliveryRecord slot) ∨ (∃ addr, x = .completion addr) →
          s.post x v = s.setPointer (s.path.pointer.map fun e => if e.target = x then { e with value := v } else e)) ∧
        ((∃ o, x = .countWord o) ∨ x = .eventWord →
          s.post x v = s.setPointer (s.path.pointer.filter (fun e => e.target ≠ x) ++ [{ target := x, value := v }])))

/-- The steps of a publication (R211 to R214). The report timer starts again and makes a cause: it starts a publication or makes it DUE,
it is merged while one is DUE, and while one is in progress it leaves the follow-on mark or is merged with it. A DUE publication starts
once no publication-range read is open. Each answered write is followed by the next; the 64th ends the publication, which posts the Event
Word with the new count and is counted. The held reads are then forwarded in order, and the state moves on: IDLE, or the follow-on
publication. Taken from the model's readings: the release is a step of its own, made at once where no read is held (log entry 26), and the
report timer starts again from the time its expiry is taken (log entry 40). -/
def Obligations.PublicationSteps : Prop :=
  ∀ (s : State), s.pins.resetN = true →
    let started := fun u : State => State.postPublication
      { u with rep := { u.rep with pubState := .publishing, pubCount := u.rep.pubCount + 1, pubStart := u.clock.time,
                                   pubBase := u.prof.active.reportBase.getD 0, ended := false } } 0
    let due := fun u : State =>
      if u.rangeOpen then { u with rep := { u.rep with pubState := .due } }
      else started { u with rep := { u.rep with pubState := .due } }
    let movedOn := fun u : State =>
      if u.rep.followOn then due { u with rep := { u.rep with ended := false, followOn := false } }
      else { u with rep := { u.rep with ended := false, followOn := false, pubState := .idle } }
    let finished := fun u : State =>
      (State.postEventWord { u with rep := { u.rep with pubWrite := none, ended := true, endedCount := u.rep.pubCount } }).bump
        .publications
    let released := fun u : State =>
      u.setUp (u.path.up.map fun x => if x.stage = .held then { x with stage := .waiting } else x)
    let rearmed : State := { s with rep := { s.rep with timer := some (s.clock.time + s.prof.active.reportInterval) } }
    (∀ at_, s.rep.timer = some at_ → reached s.clock.time at_ = true → s.rep.pubState = .idle → s.rangeOpen = false →
      exec .reportTimerExpiry s = .next (started rearmed)) ∧
    (∀ at_, s.rep.timer = some at_ → reached s.clock.time at_ = true → s.rep.pubState = .idle → s.rangeOpen = true →
      exec .reportTimerExpiry s = .next { rearmed with rep := { rearmed.rep with pubState := .due } }) ∧
    (∀ at_, s.rep.timer = some at_ → reached s.clock.time at_ = true → s.rep.pubState = .due →
      exec .reportTimerExpiry s = .next (rearmed.bump .reportMerged)) ∧
    (∀ at_, s.rep.timer = some at_ → reached s.clock.time at_ = true → s.rep.pubState = .publishing →
      exec .reportTimerExpiry s =
        .next (if s.rep.followOn then rearmed.bump .reportMerged
               else { rearmed with rep := { rearmed.rep with followOn := true } })) ∧
    (s.rep.pubState = .due → s.rangeOpen = false → exec .publicationStart s = .next (started s)) ∧
    (s.rep.pubState ≠ .due ∨ s.rangeOpen = true → exec .publicationStart s = .next s) ∧
    (∀ d t w data, s.awaits d t .publisher → t.kind = .write → s.rep.pubWrite = some w → w.index < 63 →
      exec (.publicationWriteAnswer d (.ok data)) s = .next ((s.setDown d none).postPublication (w.index + 1)) ∧
      exec (.publicationWriteAnswer d .error) s =
        .next (((((s.setDown d none).bump .memoryError).raise .pathFault).bump .publishFault).postPublication (w.index + 1))) ∧
    (∀ d t w data, s.awaits d t .publisher → t.kind = .write → s.rep.pubWrite = some w → w.index = 63 →
      let answered := s.setDown d none
      let faulted := (((s.setDown d none).bump .memoryError).raise .pathFault).bump .publishFault
      (s.heldReads ≠ 0 →
        exec (.publicationWriteAnswer d (.ok data)) s = .next (finished answered) ∧
        exec (.publicationWriteAnswer d .error) s = .next (finished faulted)) ∧
      (s.heldReads = 0 →
        exec (.publicationWriteAnswer d (.ok data)) s = .next (movedOn (finished answered)) ∧
        exec (.publicationWriteAnswer d .error) s = .next (movedOn (finished faulted)))) ∧
    (s.rep.ended = true → s.rep.followOn = false →
      exec .heldReadRelease s =
        .next { s with
          path := { s.path with up := s.path.up.map fun x => if x.stage = .held then { x with stage := .waiting } else x }
          rep := { s.rep with ended := false, followOn := false, pubState := .idle } }) ∧
    (s.rep.ended = true → exec .heldReadRelease s = .next (movedOn (released s)))

/-! ## The formats -/

/-- The header the Distributor builds is read back by the Landing Unit field for field, and is header-valid when its kind and length are,
unless it is spoilt, when its check always fails (R23, R24, R195, R216). -/
def Obligations.HeadersReadBackAsBuilt : Prop :=
  ∀ (kind : BitVec 3) (s e : Bool) (lane : Pair) (generation : Byte) (sequence length : Half) (info : Byte) (spoilt : Bool),
    ∃ w0 w1, buildHeader kind s e lane generation sequence length info spoilt = [w0, w1] ∧
      (parseHeader w0 w1).kind = kind ∧ (parseHeader w0 w1).s = s ∧ (parseHeader w0 w1).e = e ∧
      (parseHeader w0 w1).lane = lane ∧ (parseHeader w0 w1).generation = generation ∧
      (parseHeader w0 w1).sequence = sequence ∧ (parseHeader w0 w1).length = length ∧ (parseHeader w0 w1).info = info ∧
      (spoilt = true → classifyHeader w0 w1 = .check) ∧
      (spoilt = false → kind = kindData ∨ kind = kindStatus ∨ kind = kindProve → length ≠ 0 → length.toNat ≤ 1016 →
        classifyHeader w0 w1 = .none)

/-! ## What every step keeps -/

/-- Every step keeps the surge stop consistent: in force exactly while the flag is set and the enable is on, every pair HELD or OUT under
it and none HELD otherwise, and the flag set while SURGE_N is low (section 9.1, R180, R189, R190). -/
def Obligations.SurgeStopKept : Prop := ∀ s t : State, s.surgeOk → step s = .next t → t.surgeOk

/-- Every step keeps ATTN_N asserted exactly while the event set and the enable set share a flag (R208). -/
def Obligations.AttentionKept : Prop := ∀ s t : State, s.attnOk → step s = .next t → t.attnOk

/-- Every step keeps the Delivery Queue the frames from the oldest count to the producer count, at most 64, with exactly those before the
consumer count retiring (R95, R110, R111). -/
def Obligations.DeliveryQueueKept : Prop := ∀ s t : State, s.deliveryOk → step s = .next t → t.deliveryOk

/-- Every step keeps at most 8 upstream transactions open under distinct labels, the streak in 0..8 (R1, R13), and the Transmit Queue with
the fetch in flight within 32 (R122, R125), and the Pointer Writer's list at most one entry per target (R16). -/
def Obligations.OpenTransactionsBounded : Prop :=
  (∀ s t : State, s.upstreamOk → step s = .next t → t.upstreamOk) ∧
    (∀ s t : State, s.transmitOk → step s = .next t → t.transmitOk) ∧
    ∀ s t : State, s.pointerOk → step s = .next t → t.pointerOk

/-- What every step keeps holds right after reset. -/
def Obligations.KeptConditionsHoldAtReset : Prop :=
  State.reset.surgeOk ∧ State.reset.attnOk ∧ State.reset.deliveryOk ∧ State.reset.upstreamOk ∧ State.reset.transmitOk ∧
    State.reset.pointerOk
end

