-- ==== Sys2Proof/Laws/State.lean ====
section
/-! SUPPORT. One lemma per field per update of State: what each named update sets, and that it leaves every other field. -/

namespace Sys2Proof.Machine

/-! ### State.bump -/

@[simp] theorem State.bump_pins (s : State) (c : GCounter) (n : Nat) : (s.bump c n).pins = s.pins := rfl
@[simp] theorem State.bump_path (s : State) (c : GCounter) (n : Nat) : (s.bump c n).path = s.path := rfl
@[simp] theorem State.bump_pairs (s : State) (c : GCounter) (n : Nat) : (s.bump c n).pairs = s.pairs := rfl
@[simp] theorem State.bump_reseq (s : State) (c : GCounter) (n : Nat) : (s.bump c n).reseq = s.reseq := rfl
@[simp] theorem State.bump_deliv (s : State) (c : GCounter) (n : Nat) : (s.bump c n).deliv = s.deliv := rfl
@[simp] theorem State.bump_subm (s : State) (c : GCounter) (n : Nat) : (s.bump c n).subm = s.subm := rfl
@[simp] theorem State.bump_dist (s : State) (c : GCounter) (n : Nat) : (s.bump c n).dist = s.dist := rfl
@[simp] theorem State.bump_sup (s : State) (c : GCounter) (n : Nat) : (s.bump c n).sup = s.sup := rfl
@[simp] theorem State.bump_surge (s : State) (c : GCounter) (n : Nat) : (s.bump c n).surge = s.surge := rfl
@[simp] theorem State.bump_prof (s : State) (c : GCounter) (n : Nat) : (s.bump c n).prof = s.prof := rfl
@[simp] theorem State.bump_clock (s : State) (c : GCounter) (n : Nat) : (s.bump c n).clock = s.clock := rfl
@[simp] theorem State.bump_rep (s : State) (c : GCounter) (n : Nat) : (s.bump c n).rep = s.rep := rfl
@[simp] theorem State.bump_counters (s : State) (c : GCounter) (n : Nat) :
    (s.bump c n).counters = s.counters.set c.index.val (satAdd32 s.counters[c.index.val] n) := rfl
@[simp] theorem State.bump_responses (s : State) (c : GCounter) (n : Nat) : (s.bump c n).responses = s.responses := rfl
@[simp] theorem State.bump_freeIndex (s : State) (c : GCounter) (n : Nat) : (s.bump c n).freeIndex = s.freeIndex := rfl
@[simp] theorem State.bump_pending (s : State) (c : GCounter) (n : Nat) : (s.bump c n).pending = s.pending := rfl

/-! ### State.modPair -/

@[simp] theorem State.modPair_pins (s : State) (p : Pair) (f : PairRec → PairRec) : (s.modPair p f).pins = s.pins := rfl
@[simp] theorem State.modPair_path (s : State) (p : Pair) (f : PairRec → PairRec) : (s.modPair p f).path = s.path := rfl
@[simp] theorem State.modPair_pairs (s : State) (p : Pair) (f : PairRec → PairRec) :
    (s.modPair p f).pairs = s.pairs.set p.val (f s.pairs[p.val]) := rfl
@[simp] theorem State.modPair_reseq (s : State) (p : Pair) (f : PairRec → PairRec) : (s.modPair p f).reseq = s.reseq := rfl
@[simp] theorem State.modPair_deliv (s : State) (p : Pair) (f : PairRec → PairRec) : (s.modPair p f).deliv = s.deliv := rfl
@[simp] theorem State.modPair_subm (s : State) (p : Pair) (f : PairRec → PairRec) : (s.modPair p f).subm = s.subm := rfl
@[simp] theorem State.modPair_dist (s : State) (p : Pair) (f : PairRec → PairRec) : (s.modPair p f).dist = s.dist := rfl
@[simp] theorem State.modPair_sup (s : State) (p : Pair) (f : PairRec → PairRec) : (s.modPair p f).sup = s.sup := rfl
@[simp] theorem State.modPair_surge (s : State) (p : Pair) (f : PairRec → PairRec) : (s.modPair p f).surge = s.surge := rfl
@[simp] theorem State.modPair_prof (s : State) (p : Pair) (f : PairRec → PairRec) : (s.modPair p f).prof = s.prof := rfl
@[simp] theorem State.modPair_clock (s : State) (p : Pair) (f : PairRec → PairRec) : (s.modPair p f).clock = s.clock := rfl
@[simp] theorem State.modPair_rep (s : State) (p : Pair) (f : PairRec → PairRec) : (s.modPair p f).rep = s.rep := rfl
@[simp] theorem State.modPair_counters (s : State) (p : Pair) (f : PairRec → PairRec) : (s.modPair p f).counters = s.counters := rfl
@[simp] theorem State.modPair_responses (s : State) (p : Pair) (f : PairRec → PairRec) :
    (s.modPair p f).responses = s.responses := rfl
@[simp] theorem State.modPair_freeIndex (s : State) (p : Pair) (f : PairRec → PairRec) :
    (s.modPair p f).freeIndex = s.freeIndex := rfl
@[simp] theorem State.modPair_pending (s : State) (p : Pair) (f : PairRec → PairRec) : (s.modPair p f).pending = s.pending := rfl

/-! ### State.bumpPair -/

@[simp] theorem State.bumpPair_pins (s : State) (p : Pair) (c : PCounter) (n : Nat) : (s.bumpPair p c n).pins = s.pins := rfl
@[simp] theorem State.bumpPair_path (s : State) (p : Pair) (c : PCounter) (n : Nat) : (s.bumpPair p c n).path = s.path := rfl
@[simp] theorem State.bumpPair_pairs (s : State) (p : Pair) (c : PCounter) (n : Nat) :
    (s.bumpPair p c n).pairs = s.pairs.set p.val (s.pairs[p.val].bump c n) := rfl
@[simp] theorem State.bumpPair_reseq (s : State) (p : Pair) (c : PCounter) (n : Nat) : (s.bumpPair p c n).reseq = s.reseq := rfl
@[simp] theorem State.bumpPair_deliv (s : State) (p : Pair) (c : PCounter) (n : Nat) : (s.bumpPair p c n).deliv = s.deliv := rfl
@[simp] theorem State.bumpPair_subm (s : State) (p : Pair) (c : PCounter) (n : Nat) : (s.bumpPair p c n).subm = s.subm := rfl
@[simp] theorem State.bumpPair_dist (s : State) (p : Pair) (c : PCounter) (n : Nat) : (s.bumpPair p c n).dist = s.dist := rfl
@[simp] theorem State.bumpPair_sup (s : State) (p : Pair) (c : PCounter) (n : Nat) : (s.bumpPair p c n).sup = s.sup := rfl
@[simp] theorem State.bumpPair_surge (s : State) (p : Pair) (c : PCounter) (n : Nat) : (s.bumpPair p c n).surge = s.surge := rfl
@[simp] theorem State.bumpPair_prof (s : State) (p : Pair) (c : PCounter) (n : Nat) : (s.bumpPair p c n).prof = s.prof := rfl
@[simp] theorem State.bumpPair_clock (s : State) (p : Pair) (c : PCounter) (n : Nat) : (s.bumpPair p c n).clock = s.clock := rfl
@[simp] theorem State.bumpPair_rep (s : State) (p : Pair) (c : PCounter) (n : Nat) : (s.bumpPair p c n).rep = s.rep := rfl
@[simp] theorem State.bumpPair_counters (s : State) (p : Pair) (c : PCounter) (n : Nat) :
    (s.bumpPair p c n).counters = s.counters := rfl
@[simp] theorem State.bumpPair_responses (s : State) (p : Pair) (c : PCounter) (n : Nat) :
    (s.bumpPair p c n).responses = s.responses := rfl
@[simp] theorem State.bumpPair_freeIndex (s : State) (p : Pair) (c : PCounter) (n : Nat) :
    (s.bumpPair p c n).freeIndex = s.freeIndex := rfl
@[simp] theorem State.bumpPair_pending (s : State) (p : Pair) (c : PCounter) (n : Nat) :
    (s.bumpPair p c n).pending = s.pending := rfl

/-! ### State.respond -/

@[simp] theorem State.respond_pins (s : State) (r : Response) : (s.respond r).pins = s.pins := rfl
@[simp] theorem State.respond_path (s : State) (r : Response) : (s.respond r).path = s.path := rfl
@[simp] theorem State.respond_pairs (s : State) (r : Response) : (s.respond r).pairs = s.pairs := rfl
@[simp] theorem State.respond_reseq (s : State) (r : Response) : (s.respond r).reseq = s.reseq := rfl
@[simp] theorem State.respond_deliv (s : State) (r : Response) : (s.respond r).deliv = s.deliv := rfl
@[simp] theorem State.respond_subm (s : State) (r : Response) : (s.respond r).subm = s.subm := rfl
@[simp] theorem State.respond_dist (s : State) (r : Response) : (s.respond r).dist = s.dist := rfl
@[simp] theorem State.respond_sup (s : State) (r : Response) : (s.respond r).sup = s.sup := rfl
@[simp] theorem State.respond_surge (s : State) (r : Response) : (s.respond r).surge = s.surge := rfl
@[simp] theorem State.respond_prof (s : State) (r : Response) : (s.respond r).prof = s.prof := rfl
@[simp] theorem State.respond_clock (s : State) (r : Response) : (s.respond r).clock = s.clock := rfl
@[simp] theorem State.respond_rep (s : State) (r : Response) : (s.respond r).rep = s.rep := rfl
@[simp] theorem State.respond_counters (s : State) (r : Response) : (s.respond r).counters = s.counters := rfl
@[simp] theorem State.respond_responses (s : State) (r : Response) : (s.respond r).responses = s.responses ++ [r] := rfl
@[simp] theorem State.respond_freeIndex (s : State) (r : Response) : (s.respond r).freeIndex = s.freeIndex := rfl
@[simp] theorem State.respond_pending (s : State) (r : Response) : (s.respond r).pending = s.pending := rfl

/-! ### State.setUp -/

@[simp] theorem State.setUp_pins (s : State) (l : List UpTx) : (s.setUp l).pins = s.pins := rfl
@[simp] theorem State.setUp_path (s : State) (l : List UpTx) : (s.setUp l).path = { s.path with up := l } := rfl
@[simp] theorem State.setUp_pairs (s : State) (l : List UpTx) : (s.setUp l).pairs = s.pairs := rfl
@[simp] theorem State.setUp_reseq (s : State) (l : List UpTx) : (s.setUp l).reseq = s.reseq := rfl
@[simp] theorem State.setUp_deliv (s : State) (l : List UpTx) : (s.setUp l).deliv = s.deliv := rfl
@[simp] theorem State.setUp_subm (s : State) (l : List UpTx) : (s.setUp l).subm = s.subm := rfl
@[simp] theorem State.setUp_dist (s : State) (l : List UpTx) : (s.setUp l).dist = s.dist := rfl
@[simp] theorem State.setUp_sup (s : State) (l : List UpTx) : (s.setUp l).sup = s.sup := rfl
@[simp] theorem State.setUp_surge (s : State) (l : List UpTx) : (s.setUp l).surge = s.surge := rfl
@[simp] theorem State.setUp_prof (s : State) (l : List UpTx) : (s.setUp l).prof = s.prof := rfl
@[simp] theorem State.setUp_clock (s : State) (l : List UpTx) : (s.setUp l).clock = s.clock := rfl
@[simp] theorem State.setUp_rep (s : State) (l : List UpTx) : (s.setUp l).rep = s.rep := rfl
@[simp] theorem State.setUp_counters (s : State) (l : List UpTx) : (s.setUp l).counters = s.counters := rfl
@[simp] theorem State.setUp_responses (s : State) (l : List UpTx) : (s.setUp l).responses = s.responses := rfl
@[simp] theorem State.setUp_freeIndex (s : State) (l : List UpTx) : (s.setUp l).freeIndex = s.freeIndex := rfl
@[simp] theorem State.setUp_pending (s : State) (l : List UpTx) : (s.setUp l).pending = s.pending := rfl

/-! ### State.setStage -/

@[simp] theorem State.setStage_pins (s : State) (l : Label) (g : UpStage) : (s.setStage l g).pins = s.pins := rfl
@[simp] theorem State.setStage_pairs (s : State) (l : Label) (g : UpStage) : (s.setStage l g).pairs = s.pairs := rfl
@[simp] theorem State.setStage_reseq (s : State) (l : Label) (g : UpStage) : (s.setStage l g).reseq = s.reseq := rfl
@[simp] theorem State.setStage_deliv (s : State) (l : Label) (g : UpStage) : (s.setStage l g).deliv = s.deliv := rfl
@[simp] theorem State.setStage_subm (s : State) (l : Label) (g : UpStage) : (s.setStage l g).subm = s.subm := rfl
@[simp] theorem State.setStage_dist (s : State) (l : Label) (g : UpStage) : (s.setStage l g).dist = s.dist := rfl
@[simp] theorem State.setStage_sup (s : State) (l : Label) (g : UpStage) : (s.setStage l g).sup = s.sup := rfl
@[simp] theorem State.setStage_surge (s : State) (l : Label) (g : UpStage) : (s.setStage l g).surge = s.surge := rfl
@[simp] theorem State.setStage_prof (s : State) (l : Label) (g : UpStage) : (s.setStage l g).prof = s.prof := rfl
@[simp] theorem State.setStage_clock (s : State) (l : Label) (g : UpStage) : (s.setStage l g).clock = s.clock := rfl
@[simp] theorem State.setStage_rep (s : State) (l : Label) (g : UpStage) : (s.setStage l g).rep = s.rep := rfl
@[simp] theorem State.setStage_counters (s : State) (l : Label) (g : UpStage) : (s.setStage l g).counters = s.counters := rfl
@[simp] theorem State.setStage_responses (s : State) (l : Label) (g : UpStage) : (s.setStage l g).responses = s.responses := rfl
@[simp] theorem State.setStage_freeIndex (s : State) (l : Label) (g : UpStage) : (s.setStage l g).freeIndex = s.freeIndex := rfl
@[simp] theorem State.setStage_pending (s : State) (l : Label) (g : UpStage) : (s.setStage l g).pending = s.pending := rfl

/-! ### State.closeUp -/

@[simp] theorem State.closeUp_pins (s : State) (r : Response) : (s.closeUp r).pins = s.pins := rfl
@[simp] theorem State.closeUp_path (s : State) (r : Response) :
    (s.closeUp r).path = { s.path with up := s.path.up.filter fun t => t.label ≠ r.label } := rfl
@[simp] theorem State.closeUp_pairs (s : State) (r : Response) : (s.closeUp r).pairs = s.pairs := rfl
@[simp] theorem State.closeUp_reseq (s : State) (r : Response) : (s.closeUp r).reseq = s.reseq := rfl
@[simp] theorem State.closeUp_deliv (s : State) (r : Response) : (s.closeUp r).deliv = s.deliv := rfl
@[simp] theorem State.closeUp_subm (s : State) (r : Response) : (s.closeUp r).subm = s.subm := rfl
@[simp] theorem State.closeUp_dist (s : State) (r : Response) : (s.closeUp r).dist = s.dist := rfl
@[simp] theorem State.closeUp_sup (s : State) (r : Response) : (s.closeUp r).sup = s.sup := rfl
@[simp] theorem State.closeUp_surge (s : State) (r : Response) : (s.closeUp r).surge = s.surge := rfl
@[simp] theorem State.closeUp_prof (s : State) (r : Response) : (s.closeUp r).prof = s.prof := rfl
@[simp] theorem State.closeUp_clock (s : State) (r : Response) : (s.closeUp r).clock = s.clock := rfl
@[simp] theorem State.closeUp_rep (s : State) (r : Response) : (s.closeUp r).rep = s.rep := rfl
@[simp] theorem State.closeUp_counters (s : State) (r : Response) : (s.closeUp r).counters = s.counters := rfl
@[simp] theorem State.closeUp_responses (s : State) (r : Response) : (s.closeUp r).responses = s.responses ++ [r] := rfl
@[simp] theorem State.closeUp_freeIndex (s : State) (r : Response) : (s.closeUp r).freeIndex = s.freeIndex := rfl
@[simp] theorem State.closeUp_pending (s : State) (r : Response) : (s.closeUp r).pending = s.pending := rfl

/-! ### State.setDown -/

@[simp] theorem State.setDown_pins (s : State) (d : Label) (t : Option DownTx) : (s.setDown d t).pins = s.pins := rfl
@[simp] theorem State.setDown_path (s : State) (d : Label) (t : Option DownTx) :
    (s.setDown d t).path = { s.path with down := s.path.down.set d.val t } := rfl
@[simp] theorem State.setDown_pairs (s : State) (d : Label) (t : Option DownTx) : (s.setDown d t).pairs = s.pairs := rfl
@[simp] theorem State.setDown_reseq (s : State) (d : Label) (t : Option DownTx) : (s.setDown d t).reseq = s.reseq := rfl
@[simp] theorem State.setDown_deliv (s : State) (d : Label) (t : Option DownTx) : (s.setDown d t).deliv = s.deliv := rfl
@[simp] theorem State.setDown_subm (s : State) (d : Label) (t : Option DownTx) : (s.setDown d t).subm = s.subm := rfl
@[simp] theorem State.setDown_dist (s : State) (d : Label) (t : Option DownTx) : (s.setDown d t).dist = s.dist := rfl
@[simp] theorem State.setDown_sup (s : State) (d : Label) (t : Option DownTx) : (s.setDown d t).sup = s.sup := rfl
@[simp] theorem State.setDown_surge (s : State) (d : Label) (t : Option DownTx) : (s.setDown d t).surge = s.surge := rfl
@[simp] theorem State.setDown_prof (s : State) (d : Label) (t : Option DownTx) : (s.setDown d t).prof = s.prof := rfl
@[simp] theorem State.setDown_clock (s : State) (d : Label) (t : Option DownTx) : (s.setDown d t).clock = s.clock := rfl
@[simp] theorem State.setDown_rep (s : State) (d : Label) (t : Option DownTx) : (s.setDown d t).rep = s.rep := rfl
@[simp] theorem State.setDown_counters (s : State) (d : Label) (t : Option DownTx) : (s.setDown d t).counters = s.counters := rfl
@[simp] theorem State.setDown_responses (s : State) (d : Label) (t : Option DownTx) : (s.setDown d t).responses = s.responses := rfl
@[simp] theorem State.setDown_freeIndex (s : State) (d : Label) (t : Option DownTx) : (s.setDown d t).freeIndex = s.freeIndex := rfl
@[simp] theorem State.setDown_pending (s : State) (d : Label) (t : Option DownTx) : (s.setDown d t).pending = s.pending := rfl

/-! ### State.post -/

@[simp] theorem State.post_pins (s : State) (t : Target) (v : List Word) : (s.post t v).pins = s.pins := rfl
@[simp] theorem State.post_path (s : State) (t : Target) (v : List Word) :
    (s.post t v).path = { s.path with pointer := postTo s.path.pointer t v } := rfl
@[simp] theorem State.post_pairs (s : State) (t : Target) (v : List Word) : (s.post t v).pairs = s.pairs := rfl
@[simp] theorem State.post_reseq (s : State) (t : Target) (v : List Word) : (s.post t v).reseq = s.reseq := rfl
@[simp] theorem State.post_deliv (s : State) (t : Target) (v : List Word) : (s.post t v).deliv = s.deliv := rfl
@[simp] theorem State.post_subm (s : State) (t : Target) (v : List Word) : (s.post t v).subm = s.subm := rfl
@[simp] theorem State.post_dist (s : State) (t : Target) (v : List Word) : (s.post t v).dist = s.dist := rfl
@[simp] theorem State.post_sup (s : State) (t : Target) (v : List Word) : (s.post t v).sup = s.sup := rfl
@[simp] theorem State.post_surge (s : State) (t : Target) (v : List Word) : (s.post t v).surge = s.surge := rfl
@[simp] theorem State.post_prof (s : State) (t : Target) (v : List Word) : (s.post t v).prof = s.prof := rfl
@[simp] theorem State.post_clock (s : State) (t : Target) (v : List Word) : (s.post t v).clock = s.clock := rfl
@[simp] theorem State.post_rep (s : State) (t : Target) (v : List Word) : (s.post t v).rep = s.rep := rfl
@[simp] theorem State.post_counters (s : State) (t : Target) (v : List Word) : (s.post t v).counters = s.counters := rfl
@[simp] theorem State.post_responses (s : State) (t : Target) (v : List Word) : (s.post t v).responses = s.responses := rfl
@[simp] theorem State.post_freeIndex (s : State) (t : Target) (v : List Word) : (s.post t v).freeIndex = s.freeIndex := rfl
@[simp] theorem State.post_pending (s : State) (t : Target) (v : List Word) : (s.post t v).pending = s.pending := rfl

/-! ### State.refreshAttn -/

@[simp] theorem State.refreshAttn_pins (s : State) : (s.refreshAttn).pins = { s.pins with attn := s.attention } := rfl
@[simp] theorem State.refreshAttn_path (s : State) : (s.refreshAttn).path = s.path := rfl
@[simp] theorem State.refreshAttn_pairs (s : State) : (s.refreshAttn).pairs = s.pairs := rfl
@[simp] theorem State.refreshAttn_reseq (s : State) : (s.refreshAttn).reseq = s.reseq := rfl
@[simp] theorem State.refreshAttn_deliv (s : State) : (s.refreshAttn).deliv = s.deliv := rfl
@[simp] theorem State.refreshAttn_subm (s : State) : (s.refreshAttn).subm = s.subm := rfl
@[simp] theorem State.refreshAttn_dist (s : State) : (s.refreshAttn).dist = s.dist := rfl
@[simp] theorem State.refreshAttn_sup (s : State) : (s.refreshAttn).sup = s.sup := rfl
@[simp] theorem State.refreshAttn_surge (s : State) : (s.refreshAttn).surge = s.surge := rfl
@[simp] theorem State.refreshAttn_prof (s : State) : (s.refreshAttn).prof = s.prof := rfl
@[simp] theorem State.refreshAttn_clock (s : State) : (s.refreshAttn).clock = s.clock := rfl
@[simp] theorem State.refreshAttn_rep (s : State) : (s.refreshAttn).rep = s.rep := rfl
@[simp] theorem State.refreshAttn_counters (s : State) : (s.refreshAttn).counters = s.counters := rfl
@[simp] theorem State.refreshAttn_responses (s : State) : (s.refreshAttn).responses = s.responses := rfl
@[simp] theorem State.refreshAttn_freeIndex (s : State) : (s.refreshAttn).freeIndex = s.freeIndex := rfl
@[simp] theorem State.refreshAttn_pending (s : State) : (s.refreshAttn).pending = s.pending := rfl

/-! ### State.setEvent -/

@[simp] theorem State.setEvent_path (s : State) (e : Event) : (s.setEvent e).path = s.path := rfl
@[simp] theorem State.setEvent_pairs (s : State) (e : Event) : (s.setEvent e).pairs = s.pairs := rfl
@[simp] theorem State.setEvent_reseq (s : State) (e : Event) : (s.setEvent e).reseq = s.reseq := rfl
@[simp] theorem State.setEvent_deliv (s : State) (e : Event) : (s.setEvent e).deliv = s.deliv := rfl
@[simp] theorem State.setEvent_subm (s : State) (e : Event) : (s.setEvent e).subm = s.subm := rfl
@[simp] theorem State.setEvent_dist (s : State) (e : Event) : (s.setEvent e).dist = s.dist := rfl
@[simp] theorem State.setEvent_sup (s : State) (e : Event) : (s.setEvent e).sup = s.sup := rfl
@[simp] theorem State.setEvent_surge (s : State) (e : Event) : (s.setEvent e).surge = s.surge := rfl
@[simp] theorem State.setEvent_prof (s : State) (e : Event) : (s.setEvent e).prof = s.prof := rfl
@[simp] theorem State.setEvent_clock (s : State) (e : Event) : (s.setEvent e).clock = s.clock := rfl
@[simp] theorem State.setEvent_rep (s : State) (e : Event) :
    (s.setEvent e).rep = { s.rep with events := s.rep.events ||| e.mask, fresh := s.rep.fresh ||| e.mask, afterIssue := s.rep.afterIssue ||| e.mask } := rfl
@[simp] theorem State.setEvent_counters (s : State) (e : Event) : (s.setEvent e).counters = s.counters := rfl
@[simp] theorem State.setEvent_responses (s : State) (e : Event) : (s.setEvent e).responses = s.responses := rfl
@[simp] theorem State.setEvent_freeIndex (s : State) (e : Event) : (s.setEvent e).freeIndex = s.freeIndex := rfl
@[simp] theorem State.setEvent_pending (s : State) (e : Event) : (s.setEvent e).pending = s.pending := rfl

/-! ### State.setQueue -/

@[simp] theorem State.setQueue_pins (s : State) (q : List FrameRec) : (s.setQueue q).pins = s.pins := rfl
@[simp] theorem State.setQueue_path (s : State) (q : List FrameRec) : (s.setQueue q).path = s.path := rfl
@[simp] theorem State.setQueue_pairs (s : State) (q : List FrameRec) : (s.setQueue q).pairs = s.pairs := rfl
@[simp] theorem State.setQueue_reseq (s : State) (q : List FrameRec) : (s.setQueue q).reseq = s.reseq := rfl
@[simp] theorem State.setQueue_deliv (s : State) (q : List FrameRec) : (s.setQueue q).deliv = { s.deliv with queue := q } := rfl
@[simp] theorem State.setQueue_subm (s : State) (q : List FrameRec) : (s.setQueue q).subm = s.subm := rfl
@[simp] theorem State.setQueue_dist (s : State) (q : List FrameRec) : (s.setQueue q).dist = s.dist := rfl
@[simp] theorem State.setQueue_sup (s : State) (q : List FrameRec) : (s.setQueue q).sup = s.sup := rfl
@[simp] theorem State.setQueue_surge (s : State) (q : List FrameRec) : (s.setQueue q).surge = s.surge := rfl
@[simp] theorem State.setQueue_prof (s : State) (q : List FrameRec) : (s.setQueue q).prof = s.prof := rfl
@[simp] theorem State.setQueue_clock (s : State) (q : List FrameRec) : (s.setQueue q).clock = s.clock := rfl
@[simp] theorem State.setQueue_rep (s : State) (q : List FrameRec) : (s.setQueue q).rep = s.rep := rfl
@[simp] theorem State.setQueue_counters (s : State) (q : List FrameRec) : (s.setQueue q).counters = s.counters := rfl
@[simp] theorem State.setQueue_responses (s : State) (q : List FrameRec) : (s.setQueue q).responses = s.responses := rfl
@[simp] theorem State.setQueue_freeIndex (s : State) (q : List FrameRec) : (s.setQueue q).freeIndex = s.freeIndex := rfl
@[simp] theorem State.setQueue_pending (s : State) (q : List FrameRec) : (s.setQueue q).pending = s.pending := rfl

/-! ### State.setWindow -/

@[simp] theorem State.setWindow_pins (s : State) (w : List Pos) : (s.setWindow w).pins = s.pins := rfl
@[simp] theorem State.setWindow_path (s : State) (w : List Pos) : (s.setWindow w).path = s.path := rfl
@[simp] theorem State.setWindow_pairs (s : State) (w : List Pos) : (s.setWindow w).pairs = s.pairs := rfl
@[simp] theorem State.setWindow_reseq (s : State) (w : List Pos) :
    (s.setWindow w).reseq = { s.reseq with window := windowOf w } := rfl
@[simp] theorem State.setWindow_deliv (s : State) (w : List Pos) : (s.setWindow w).deliv = s.deliv := rfl
@[simp] theorem State.setWindow_subm (s : State) (w : List Pos) : (s.setWindow w).subm = s.subm := rfl
@[simp] theorem State.setWindow_dist (s : State) (w : List Pos) : (s.setWindow w).dist = s.dist := rfl
@[simp] theorem State.setWindow_sup (s : State) (w : List Pos) : (s.setWindow w).sup = s.sup := rfl
@[simp] theorem State.setWindow_surge (s : State) (w : List Pos) : (s.setWindow w).surge = s.surge := rfl
@[simp] theorem State.setWindow_prof (s : State) (w : List Pos) : (s.setWindow w).prof = s.prof := rfl
@[simp] theorem State.setWindow_clock (s : State) (w : List Pos) : (s.setWindow w).clock = s.clock := rfl
@[simp] theorem State.setWindow_rep (s : State) (w : List Pos) : (s.setWindow w).rep = s.rep := rfl
@[simp] theorem State.setWindow_counters (s : State) (w : List Pos) : (s.setWindow w).counters = s.counters := rfl
@[simp] theorem State.setWindow_responses (s : State) (w : List Pos) : (s.setWindow w).responses = s.responses := rfl
@[simp] theorem State.setWindow_freeIndex (s : State) (w : List Pos) : (s.setWindow w).freeIndex = s.freeIndex := rfl
@[simp] theorem State.setWindow_pending (s : State) (w : List Pos) : (s.setWindow w).pending = s.pending := rfl

/-! ### State.aim -/

@[simp] theorem State.aim_pins (s : State) : (s.aim).pins = s.pins := rfl
@[simp] theorem State.aim_path (s : State) : (s.aim).path = s.path := rfl
@[simp] theorem State.aim_pairs (s : State) : (s.aim).pairs = s.pairs := rfl
@[simp] theorem State.aim_reseq (s : State) : (s.aim).reseq = { s.reseq with skew := s.aimed } := rfl
@[simp] theorem State.aim_deliv (s : State) : (s.aim).deliv = s.deliv := rfl
@[simp] theorem State.aim_subm (s : State) : (s.aim).subm = s.subm := rfl
@[simp] theorem State.aim_dist (s : State) : (s.aim).dist = s.dist := rfl
@[simp] theorem State.aim_sup (s : State) : (s.aim).sup = s.sup := rfl
@[simp] theorem State.aim_surge (s : State) : (s.aim).surge = s.surge := rfl
@[simp] theorem State.aim_prof (s : State) : (s.aim).prof = s.prof := rfl
@[simp] theorem State.aim_clock (s : State) : (s.aim).clock = s.clock := rfl
@[simp] theorem State.aim_rep (s : State) : (s.aim).rep = s.rep := rfl
@[simp] theorem State.aim_counters (s : State) : (s.aim).counters = s.counters := rfl
@[simp] theorem State.aim_responses (s : State) : (s.aim).responses = s.responses := rfl
@[simp] theorem State.aim_freeIndex (s : State) : (s.aim).freeIndex = s.freeIndex := rfl
@[simp] theorem State.aim_pending (s : State) : (s.aim).pending = s.pending := rfl

/-! ### State.modSubm -/

@[simp] theorem State.modSubm_pins (s : State) (f : Submission → Submission) : (s.modSubm f).pins = s.pins := rfl
@[simp] theorem State.modSubm_path (s : State) (f : Submission → Submission) : (s.modSubm f).path = s.path := rfl
@[simp] theorem State.modSubm_pairs (s : State) (f : Submission → Submission) : (s.modSubm f).pairs = s.pairs := rfl
@[simp] theorem State.modSubm_reseq (s : State) (f : Submission → Submission) : (s.modSubm f).reseq = s.reseq := rfl
@[simp] theorem State.modSubm_deliv (s : State) (f : Submission → Submission) : (s.modSubm f).deliv = s.deliv := rfl
@[simp] theorem State.modSubm_subm (s : State) (f : Submission → Submission) : (s.modSubm f).subm = f s.subm := rfl
@[simp] theorem State.modSubm_dist (s : State) (f : Submission → Submission) : (s.modSubm f).dist = s.dist := rfl
@[simp] theorem State.modSubm_sup (s : State) (f : Submission → Submission) : (s.modSubm f).sup = s.sup := rfl
@[simp] theorem State.modSubm_surge (s : State) (f : Submission → Submission) : (s.modSubm f).surge = s.surge := rfl
@[simp] theorem State.modSubm_prof (s : State) (f : Submission → Submission) : (s.modSubm f).prof = s.prof := rfl
@[simp] theorem State.modSubm_clock (s : State) (f : Submission → Submission) : (s.modSubm f).clock = s.clock := rfl
@[simp] theorem State.modSubm_rep (s : State) (f : Submission → Submission) : (s.modSubm f).rep = s.rep := rfl
@[simp] theorem State.modSubm_counters (s : State) (f : Submission → Submission) : (s.modSubm f).counters = s.counters := rfl
@[simp] theorem State.modSubm_responses (s : State) (f : Submission → Submission) : (s.modSubm f).responses = s.responses := rfl
@[simp] theorem State.modSubm_freeIndex (s : State) (f : Submission → Submission) : (s.modSubm f).freeIndex = s.freeIndex := rfl
@[simp] theorem State.modSubm_pending (s : State) (f : Submission → Submission) : (s.modSubm f).pending = s.pending := rfl

/-! ### State.modDist -/

@[simp] theorem State.modDist_pins (s : State) (f : Dist → Dist) : (s.modDist f).pins = s.pins := rfl
@[simp] theorem State.modDist_path (s : State) (f : Dist → Dist) : (s.modDist f).path = s.path := rfl
@[simp] theorem State.modDist_pairs (s : State) (f : Dist → Dist) : (s.modDist f).pairs = s.pairs := rfl
@[simp] theorem State.modDist_reseq (s : State) (f : Dist → Dist) : (s.modDist f).reseq = s.reseq := rfl
@[simp] theorem State.modDist_deliv (s : State) (f : Dist → Dist) : (s.modDist f).deliv = s.deliv := rfl
@[simp] theorem State.modDist_subm (s : State) (f : Dist → Dist) : (s.modDist f).subm = s.subm := rfl
@[simp] theorem State.modDist_dist (s : State) (f : Dist → Dist) : (s.modDist f).dist = f s.dist := rfl
@[simp] theorem State.modDist_sup (s : State) (f : Dist → Dist) : (s.modDist f).sup = s.sup := rfl
@[simp] theorem State.modDist_surge (s : State) (f : Dist → Dist) : (s.modDist f).surge = s.surge := rfl
@[simp] theorem State.modDist_prof (s : State) (f : Dist → Dist) : (s.modDist f).prof = s.prof := rfl
@[simp] theorem State.modDist_clock (s : State) (f : Dist → Dist) : (s.modDist f).clock = s.clock := rfl
@[simp] theorem State.modDist_rep (s : State) (f : Dist → Dist) : (s.modDist f).rep = s.rep := rfl
@[simp] theorem State.modDist_counters (s : State) (f : Dist → Dist) : (s.modDist f).counters = s.counters := rfl
@[simp] theorem State.modDist_responses (s : State) (f : Dist → Dist) : (s.modDist f).responses = s.responses := rfl
@[simp] theorem State.modDist_freeIndex (s : State) (f : Dist → Dist) : (s.modDist f).freeIndex = s.freeIndex := rfl
@[simp] theorem State.modDist_pending (s : State) (f : Dist → Dist) : (s.modDist f).pending = s.pending := rfl

/-! ### State.modRep -/

@[simp] theorem State.modRep_pins (s : State) (f : Report → Report) : (s.modRep f).pins = s.pins := rfl
@[simp] theorem State.modRep_path (s : State) (f : Report → Report) : (s.modRep f).path = s.path := rfl
@[simp] theorem State.modRep_pairs (s : State) (f : Report → Report) : (s.modRep f).pairs = s.pairs := rfl
@[simp] theorem State.modRep_reseq (s : State) (f : Report → Report) : (s.modRep f).reseq = s.reseq := rfl
@[simp] theorem State.modRep_deliv (s : State) (f : Report → Report) : (s.modRep f).deliv = s.deliv := rfl
@[simp] theorem State.modRep_subm (s : State) (f : Report → Report) : (s.modRep f).subm = s.subm := rfl
@[simp] theorem State.modRep_dist (s : State) (f : Report → Report) : (s.modRep f).dist = s.dist := rfl
@[simp] theorem State.modRep_sup (s : State) (f : Report → Report) : (s.modRep f).sup = s.sup := rfl
@[simp] theorem State.modRep_surge (s : State) (f : Report → Report) : (s.modRep f).surge = s.surge := rfl
@[simp] theorem State.modRep_prof (s : State) (f : Report → Report) : (s.modRep f).prof = s.prof := rfl
@[simp] theorem State.modRep_clock (s : State) (f : Report → Report) : (s.modRep f).clock = s.clock := rfl
@[simp] theorem State.modRep_rep (s : State) (f : Report → Report) : (s.modRep f).rep = f s.rep := rfl
@[simp] theorem State.modRep_counters (s : State) (f : Report → Report) : (s.modRep f).counters = s.counters := rfl
@[simp] theorem State.modRep_responses (s : State) (f : Report → Report) : (s.modRep f).responses = s.responses := rfl
@[simp] theorem State.modRep_freeIndex (s : State) (f : Report → Report) : (s.modRep f).freeIndex = s.freeIndex := rfl
@[simp] theorem State.modRep_pending (s : State) (f : Report → Report) : (s.modRep f).pending = s.pending := rfl

/-! ### State.modProf -/

@[simp] theorem State.modProf_pins (s : State) (f : ProfileUnit → ProfileUnit) : (s.modProf f).pins = s.pins := rfl
@[simp] theorem State.modProf_path (s : State) (f : ProfileUnit → ProfileUnit) : (s.modProf f).path = s.path := rfl
@[simp] theorem State.modProf_pairs (s : State) (f : ProfileUnit → ProfileUnit) : (s.modProf f).pairs = s.pairs := rfl
@[simp] theorem State.modProf_reseq (s : State) (f : ProfileUnit → ProfileUnit) : (s.modProf f).reseq = s.reseq := rfl
@[simp] theorem State.modProf_deliv (s : State) (f : ProfileUnit → ProfileUnit) : (s.modProf f).deliv = s.deliv := rfl
@[simp] theorem State.modProf_subm (s : State) (f : ProfileUnit → ProfileUnit) : (s.modProf f).subm = s.subm := rfl
@[simp] theorem State.modProf_dist (s : State) (f : ProfileUnit → ProfileUnit) : (s.modProf f).dist = s.dist := rfl
@[simp] theorem State.modProf_sup (s : State) (f : ProfileUnit → ProfileUnit) : (s.modProf f).sup = s.sup := rfl
@[simp] theorem State.modProf_surge (s : State) (f : ProfileUnit → ProfileUnit) : (s.modProf f).surge = s.surge := rfl
@[simp] theorem State.modProf_prof (s : State) (f : ProfileUnit → ProfileUnit) : (s.modProf f).prof = f s.prof := rfl
@[simp] theorem State.modProf_clock (s : State) (f : ProfileUnit → ProfileUnit) : (s.modProf f).clock = s.clock := rfl
@[simp] theorem State.modProf_rep (s : State) (f : ProfileUnit → ProfileUnit) : (s.modProf f).rep = s.rep := rfl
@[simp] theorem State.modProf_counters (s : State) (f : ProfileUnit → ProfileUnit) : (s.modProf f).counters = s.counters := rfl
@[simp] theorem State.modProf_responses (s : State) (f : ProfileUnit → ProfileUnit) : (s.modProf f).responses = s.responses := rfl
@[simp] theorem State.modProf_freeIndex (s : State) (f : ProfileUnit → ProfileUnit) : (s.modProf f).freeIndex = s.freeIndex := rfl
@[simp] theorem State.modProf_pending (s : State) (f : ProfileUnit → ProfileUnit) : (s.modProf f).pending = s.pending := rfl

/-! ### State.setLock -/

@[simp] theorem State.setLock_pins (s : State) (l : Option Lock) : (s.setLock l).pins = s.pins := rfl
@[simp] theorem State.setLock_path (s : State) (l : Option Lock) : (s.setLock l).path = { s.path with lock := l } := rfl
@[simp] theorem State.setLock_pairs (s : State) (l : Option Lock) : (s.setLock l).pairs = s.pairs := rfl
@[simp] theorem State.setLock_reseq (s : State) (l : Option Lock) : (s.setLock l).reseq = s.reseq := rfl
@[simp] theorem State.setLock_deliv (s : State) (l : Option Lock) : (s.setLock l).deliv = s.deliv := rfl
@[simp] theorem State.setLock_subm (s : State) (l : Option Lock) : (s.setLock l).subm = s.subm := rfl
@[simp] theorem State.setLock_dist (s : State) (l : Option Lock) : (s.setLock l).dist = s.dist := rfl
@[simp] theorem State.setLock_sup (s : State) (l : Option Lock) : (s.setLock l).sup = s.sup := rfl
@[simp] theorem State.setLock_surge (s : State) (l : Option Lock) : (s.setLock l).surge = s.surge := rfl
@[simp] theorem State.setLock_prof (s : State) (l : Option Lock) : (s.setLock l).prof = s.prof := rfl
@[simp] theorem State.setLock_clock (s : State) (l : Option Lock) : (s.setLock l).clock = s.clock := rfl
@[simp] theorem State.setLock_rep (s : State) (l : Option Lock) : (s.setLock l).rep = s.rep := rfl
@[simp] theorem State.setLock_counters (s : State) (l : Option Lock) : (s.setLock l).counters = s.counters := rfl
@[simp] theorem State.setLock_responses (s : State) (l : Option Lock) : (s.setLock l).responses = s.responses := rfl
@[simp] theorem State.setLock_freeIndex (s : State) (l : Option Lock) : (s.setLock l).freeIndex = s.freeIndex := rfl
@[simp] theorem State.setLock_pending (s : State) (l : Option Lock) : (s.setLock l).pending = s.pending := rfl

/-! ### State.setPointer -/

@[simp] theorem State.setPointer_pins (s : State) (l : List PointerEntry) : (s.setPointer l).pins = s.pins := rfl
@[simp] theorem State.setPointer_path (s : State) (l : List PointerEntry) :
    (s.setPointer l).path = { s.path with pointer := l } := rfl
@[simp] theorem State.setPointer_pairs (s : State) (l : List PointerEntry) : (s.setPointer l).pairs = s.pairs := rfl
@[simp] theorem State.setPointer_reseq (s : State) (l : List PointerEntry) : (s.setPointer l).reseq = s.reseq := rfl
@[simp] theorem State.setPointer_deliv (s : State) (l : List PointerEntry) : (s.setPointer l).deliv = s.deliv := rfl
@[simp] theorem State.setPointer_subm (s : State) (l : List PointerEntry) : (s.setPointer l).subm = s.subm := rfl
@[simp] theorem State.setPointer_dist (s : State) (l : List PointerEntry) : (s.setPointer l).dist = s.dist := rfl
@[simp] theorem State.setPointer_sup (s : State) (l : List PointerEntry) : (s.setPointer l).sup = s.sup := rfl
@[simp] theorem State.setPointer_surge (s : State) (l : List PointerEntry) : (s.setPointer l).surge = s.surge := rfl
@[simp] theorem State.setPointer_prof (s : State) (l : List PointerEntry) : (s.setPointer l).prof = s.prof := rfl
@[simp] theorem State.setPointer_clock (s : State) (l : List PointerEntry) : (s.setPointer l).clock = s.clock := rfl
@[simp] theorem State.setPointer_rep (s : State) (l : List PointerEntry) : (s.setPointer l).rep = s.rep := rfl
@[simp] theorem State.setPointer_counters (s : State) (l : List PointerEntry) : (s.setPointer l).counters = s.counters := rfl
@[simp] theorem State.setPointer_responses (s : State) (l : List PointerEntry) : (s.setPointer l).responses = s.responses := rfl
@[simp] theorem State.setPointer_freeIndex (s : State) (l : List PointerEntry) : (s.setPointer l).freeIndex = s.freeIndex := rfl
@[simp] theorem State.setPointer_pending (s : State) (l : List PointerEntry) : (s.setPointer l).pending = s.pending := rfl

end Sys2Proof.Machine
end

