-- ==== Sys2Proof/Laws/Ops.lean ====
section
/-! SUPPORT. What each shared operation of Ops and Flags does: pair records, counters, labels, postings and events. -/

namespace Sys2Proof.Machine

/-! ## Steps that are taken or not -/

@[simp] theorem State.whenUp_high (s : State) (f : State → State) (h : s.pins.resetN = true) : s.whenUp f = f s := by
  simp [State.whenUp, h]

@[simp] theorem State.whenUp_low (s : State) (f : State → State) (h : s.pins.resetN = false) : s.whenUp f = s := by
  simp [State.whenUp, h]

@[simp] theorem State.whenever_true (s : State) (f : State → State) : s.whenever true f = f s := rfl

@[simp] theorem State.whenever_false (s : State) (f : State → State) : s.whenever false f = s := rfl

/-! ## Pair records -/

/-- The record of a pair after its change. -/
@[simp] theorem State.pair_modPair_self (s : State) (p : Pair) (f : PairRec → PairRec) : (s.modPair p f).pair p = f (s.pair p) := by
  simp [State.pair, State.modPair]

/-- The record of another pair is left alone. -/
theorem State.pair_modPair_ne (s : State) (p q : Pair) (f : PairRec → PairRec) (h : q ≠ p) : (s.modPair p f).pair q = s.pair q := by
  have h' : p.val ≠ q.val := fun e => h (Fin.ext e.symm)
  simp [State.pair, State.modPair, h']

/-- The record of any pair after a change of one. -/
theorem State.pair_modPair (s : State) (p q : Pair) (f : PairRec → PairRec) :
    (s.modPair p f).pair q = if q = p then f (s.pair p) else s.pair q := by
  by_cases h : q = p
  · subst h; simp
  · simp [State.pair_modPair_ne, h]

/-- Two changes of one pair's record are one change. -/
theorem State.modPair_modPair (s : State) (p : Pair) (f g : PairRec → PairRec) :
    (s.modPair p f).modPair p g = s.modPair p fun r => g (f r) := by
  simp [State.modPair]

/-- The record of a pair depends on the pairs alone. -/
theorem State.pair_congr {s t : State} (h : s.pairs = t.pairs) (p : Pair) : s.pair p = t.pair p := by simp [State.pair, h]

/-! ## Counters -/

/-- The indices of two global counters are equal only for one counter. -/
theorem GCounter.index_inj (c d : GCounter) (h : c.index.val = d.index.val) : c = d := by
  cases c <;> cases d <;> first | rfl | exact absurd h (by decide)

/-- The indices of two pair counters are equal only for one counter. -/
theorem PCounter.index_inj (c d : PCounter) (h : c.index.val = d.index.val) : c = d := by
  cases c <;> cases d <;> first | rfl | exact absurd h (by decide)

@[simp] theorem State.count_bump_self (s : State) (c : GCounter) (n : Nat) : (s.bump c n).count c = satAdd32 (s.count c) n := by
  simp [State.count]

theorem State.count_bump_ne (s : State) (c d : GCounter) (n : Nat) (h : d ≠ c) : (s.bump c n).count d = s.count d := by
  have h' : c.index.val ≠ d.index.val := fun e => h (GCounter.index_inj c d e).symm
  simp [State.count, h']

theorem State.count_congr {s t : State} (h : s.counters = t.counters) (c : GCounter) : s.count c = t.count c := by
  simp [State.count, h]

@[simp] theorem PairRec.count_bump_self (r : PairRec) (c : PCounter) (n : Nat) : (r.bump c n).count c = satAdd32 (r.count c) n := by
  simp [PairRec.count, PairRec.bump]

theorem PairRec.count_bump_ne (r : PairRec) (c d : PCounter) (n : Nat) (h : d ≠ c) : (r.bump c n).count d = r.count d := by
  have h' : c.index.val ≠ d.index.val := fun e => h (PCounter.index_inj c d e).symm
  simp [PairRec.count, PairRec.bump, h']

@[simp] theorem PairRec.state_bump (r : PairRec) (c : PCounter) (n : Nat) : (r.bump c n).state = r.state := rfl

/-! ## Labels -/

theorem State.downTx_congr {s t : State} (h : s.path.down = t.path.down) (d : Label) : s.downTx d = t.downTx d := by
  simp [State.downTx, h]

@[simp] theorem State.downTx_setDown_self (s : State) (d : Label) (t : Option DownTx) : (s.setDown d t).downTx d = t := by
  simp [State.downTx]

theorem State.upTx_congr {s t : State} (h : s.path.up = t.path.up) (l : Label) : s.upTx l = t.upTx l := by simp [State.upTx, h]

/-! ## Postings -/

/-- A posting of a Count Block word changes the Pointer Writer's list at most. -/
theorem State.postWord_eq (s : State) (o : Nat) (w : Word) : ∃ l, s.postWord o w = s.setPointer l := by
  unfold State.postWord
  split
  · exact ⟨_, rfl⟩
  · exact ⟨s.path.pointer, rfl⟩

theorem State.postCount_eq (s : State) (o : Nat) (c : Half) : ∃ l, s.postCount o c = s.setPointer l := s.postWord_eq o _

/-- A posting of the Event Word changes the Pointer Writer's list or the repost mark at most. -/
theorem State.postEventWord_eq (s : State) :
    ∃ l b, s.postEventWord = (s.setPointer l).modRep fun r => { r with repost := b } := by
  unfold State.postEventWord
  split
  · split
    · exact ⟨s.path.pointer, true, rfl⟩
    · exact ⟨postTo s.path.pointer .eventWord s.eventContent, s.rep.repost, rfl⟩
  · exact ⟨s.path.pointer, s.rep.repost, rfl⟩

@[simp] theorem State.postWord_pins (s : State) (o : Nat) (w : Word) : (s.postWord o w).pins = s.pins := by
  obtain ⟨l, h⟩ := s.postWord_eq o w; simp [h]
@[simp] theorem State.postCount_pins (s : State) (o : Nat) (c : Half) : (s.postCount o c).pins = s.pins := by
  simp [State.postCount]
@[simp] theorem State.postWord_pairs (s : State) (o : Nat) (w : Word) : (s.postWord o w).pairs = s.pairs := by
  obtain ⟨l, h⟩ := s.postWord_eq o w; simp [h]
@[simp] theorem State.postCount_pairs (s : State) (o : Nat) (c : Half) : (s.postCount o c).pairs = s.pairs := by
  simp [State.postCount]
@[simp] theorem State.postWord_reseq (s : State) (o : Nat) (w : Word) : (s.postWord o w).reseq = s.reseq := by
  obtain ⟨l, h⟩ := s.postWord_eq o w; simp [h]
@[simp] theorem State.postCount_reseq (s : State) (o : Nat) (c : Half) : (s.postCount o c).reseq = s.reseq := by
  simp [State.postCount]
@[simp] theorem State.postWord_deliv (s : State) (o : Nat) (w : Word) : (s.postWord o w).deliv = s.deliv := by
  obtain ⟨l, h⟩ := s.postWord_eq o w; simp [h]
@[simp] theorem State.postCount_deliv (s : State) (o : Nat) (c : Half) : (s.postCount o c).deliv = s.deliv := by
  simp [State.postCount]
@[simp] theorem State.postWord_subm (s : State) (o : Nat) (w : Word) : (s.postWord o w).subm = s.subm := by
  obtain ⟨l, h⟩ := s.postWord_eq o w; simp [h]
@[simp] theorem State.postCount_subm (s : State) (o : Nat) (c : Half) : (s.postCount o c).subm = s.subm := by
  simp [State.postCount]
@[simp] theorem State.postWord_dist (s : State) (o : Nat) (w : Word) : (s.postWord o w).dist = s.dist := by
  obtain ⟨l, h⟩ := s.postWord_eq o w; simp [h]
@[simp] theorem State.postCount_dist (s : State) (o : Nat) (c : Half) : (s.postCount o c).dist = s.dist := by
  simp [State.postCount]
@[simp] theorem State.postWord_sup (s : State) (o : Nat) (w : Word) : (s.postWord o w).sup = s.sup := by
  obtain ⟨l, h⟩ := s.postWord_eq o w; simp [h]
@[simp] theorem State.postCount_sup (s : State) (o : Nat) (c : Half) : (s.postCount o c).sup = s.sup := by
  simp [State.postCount]
@[simp] theorem State.postWord_surge (s : State) (o : Nat) (w : Word) : (s.postWord o w).surge = s.surge := by
  obtain ⟨l, h⟩ := s.postWord_eq o w; simp [h]
@[simp] theorem State.postCount_surge (s : State) (o : Nat) (c : Half) : (s.postCount o c).surge = s.surge := by
  simp [State.postCount]
@[simp] theorem State.postWord_prof (s : State) (o : Nat) (w : Word) : (s.postWord o w).prof = s.prof := by
  obtain ⟨l, h⟩ := s.postWord_eq o w; simp [h]
@[simp] theorem State.postCount_prof (s : State) (o : Nat) (c : Half) : (s.postCount o c).prof = s.prof := by
  simp [State.postCount]
@[simp] theorem State.postWord_clock (s : State) (o : Nat) (w : Word) : (s.postWord o w).clock = s.clock := by
  obtain ⟨l, h⟩ := s.postWord_eq o w; simp [h]
@[simp] theorem State.postCount_clock (s : State) (o : Nat) (c : Half) : (s.postCount o c).clock = s.clock := by
  simp [State.postCount]
@[simp] theorem State.postWord_rep (s : State) (o : Nat) (w : Word) : (s.postWord o w).rep = s.rep := by
  obtain ⟨l, h⟩ := s.postWord_eq o w; simp [h]
@[simp] theorem State.postCount_rep (s : State) (o : Nat) (c : Half) : (s.postCount o c).rep = s.rep := by
  simp [State.postCount]
@[simp] theorem State.postWord_counters (s : State) (o : Nat) (w : Word) : (s.postWord o w).counters = s.counters := by
  obtain ⟨l, h⟩ := s.postWord_eq o w; simp [h]
@[simp] theorem State.postCount_counters (s : State) (o : Nat) (c : Half) : (s.postCount o c).counters = s.counters := by
  simp [State.postCount]
@[simp] theorem State.postWord_responses (s : State) (o : Nat) (w : Word) : (s.postWord o w).responses = s.responses := by
  obtain ⟨l, h⟩ := s.postWord_eq o w; simp [h]
@[simp] theorem State.postCount_responses (s : State) (o : Nat) (c : Half) : (s.postCount o c).responses = s.responses := by
  simp [State.postCount]
@[simp] theorem State.postWord_freeIndex (s : State) (o : Nat) (w : Word) : (s.postWord o w).freeIndex = s.freeIndex := by
  obtain ⟨l, h⟩ := s.postWord_eq o w; simp [h]
@[simp] theorem State.postCount_freeIndex (s : State) (o : Nat) (c : Half) : (s.postCount o c).freeIndex = s.freeIndex := by
  simp [State.postCount]
@[simp] theorem State.postWord_pending (s : State) (o : Nat) (w : Word) : (s.postWord o w).pending = s.pending := by
  obtain ⟨l, h⟩ := s.postWord_eq o w; simp [h]
@[simp] theorem State.postCount_pending (s : State) (o : Nat) (c : Half) : (s.postCount o c).pending = s.pending := by
  simp [State.postCount]

@[simp] theorem State.postEventWord_pins (s : State) : s.postEventWord.pins = s.pins := by
  obtain ⟨l, b, h⟩ := s.postEventWord_eq; simp [h]
@[simp] theorem State.postEventWord_pairs (s : State) : s.postEventWord.pairs = s.pairs := by
  obtain ⟨l, b, h⟩ := s.postEventWord_eq; simp [h]
@[simp] theorem State.postEventWord_reseq (s : State) : s.postEventWord.reseq = s.reseq := by
  obtain ⟨l, b, h⟩ := s.postEventWord_eq; simp [h]
@[simp] theorem State.postEventWord_deliv (s : State) : s.postEventWord.deliv = s.deliv := by
  obtain ⟨l, b, h⟩ := s.postEventWord_eq; simp [h]
@[simp] theorem State.postEventWord_subm (s : State) : s.postEventWord.subm = s.subm := by
  obtain ⟨l, b, h⟩ := s.postEventWord_eq; simp [h]
@[simp] theorem State.postEventWord_dist (s : State) : s.postEventWord.dist = s.dist := by
  obtain ⟨l, b, h⟩ := s.postEventWord_eq; simp [h]
@[simp] theorem State.postEventWord_sup (s : State) : s.postEventWord.sup = s.sup := by
  obtain ⟨l, b, h⟩ := s.postEventWord_eq; simp [h]
@[simp] theorem State.postEventWord_surge (s : State) : s.postEventWord.surge = s.surge := by
  obtain ⟨l, b, h⟩ := s.postEventWord_eq; simp [h]
@[simp] theorem State.postEventWord_prof (s : State) : s.postEventWord.prof = s.prof := by
  obtain ⟨l, b, h⟩ := s.postEventWord_eq; simp [h]
@[simp] theorem State.postEventWord_clock (s : State) : s.postEventWord.clock = s.clock := by
  obtain ⟨l, b, h⟩ := s.postEventWord_eq; simp [h]
@[simp] theorem State.postEventWord_counters (s : State) : s.postEventWord.counters = s.counters := by
  obtain ⟨l, b, h⟩ := s.postEventWord_eq; simp [h]
@[simp] theorem State.postEventWord_responses (s : State) : s.postEventWord.responses = s.responses := by
  obtain ⟨l, b, h⟩ := s.postEventWord_eq; simp [h]
@[simp] theorem State.postEventWord_freeIndex (s : State) : s.postEventWord.freeIndex = s.freeIndex := by
  obtain ⟨l, b, h⟩ := s.postEventWord_eq; simp [h]
@[simp] theorem State.postEventWord_pending (s : State) : s.postEventWord.pending = s.pending := by
  obtain ⟨l, b, h⟩ := s.postEventWord_eq; simp [h]

/-! ## Events -/

/-- What raising an event can do: the three sets and ATTN_N, then the list or the repost mark. -/
theorem State.raise_eq (s : State) (e : Event) :
    ∃ l b, s.raise e = ((s.setEvent e).setPointer l).modRep fun r => { r with repost := b } := (s.setEvent e).postEventWord_eq

@[simp] theorem State.raise_events (s : State) (e : Event) : (s.raise e).rep.events = s.rep.events ||| e.mask := by
  obtain ⟨l, b, h⟩ := s.raise_eq e; simp [h]

@[simp] theorem State.raise_fresh (s : State) (e : Event) : (s.raise e).rep.fresh = s.rep.fresh ||| e.mask := by
  obtain ⟨l, b, h⟩ := s.raise_eq e; simp [h]

@[simp] theorem State.raise_afterIssue (s : State) (e : Event) : (s.raise e).rep.afterIssue = s.rep.afterIssue ||| e.mask := by
  obtain ⟨l, b, h⟩ := s.raise_eq e; simp [h]

@[simp] theorem State.raise_pairs (s : State) (e : Event) : (s.raise e).pairs = s.pairs := by simp [State.raise]
@[simp] theorem State.raise_reseq (s : State) (e : Event) : (s.raise e).reseq = s.reseq := by simp [State.raise]
@[simp] theorem State.raise_deliv (s : State) (e : Event) : (s.raise e).deliv = s.deliv := by simp [State.raise]
@[simp] theorem State.raise_subm (s : State) (e : Event) : (s.raise e).subm = s.subm := by simp [State.raise]
@[simp] theorem State.raise_dist (s : State) (e : Event) : (s.raise e).dist = s.dist := by simp [State.raise]
@[simp] theorem State.raise_sup (s : State) (e : Event) : (s.raise e).sup = s.sup := by simp [State.raise]
@[simp] theorem State.raise_surge (s : State) (e : Event) : (s.raise e).surge = s.surge := by simp [State.raise]
@[simp] theorem State.raise_prof (s : State) (e : Event) : (s.raise e).prof = s.prof := by simp [State.raise]
@[simp] theorem State.raise_clock (s : State) (e : Event) : (s.raise e).clock = s.clock := by simp [State.raise]
@[simp] theorem State.raise_counters (s : State) (e : Event) : (s.raise e).counters = s.counters := by simp [State.raise]
@[simp] theorem State.raise_responses (s : State) (e : Event) : (s.raise e).responses = s.responses := by simp [State.raise]
@[simp] theorem State.raise_freeIndex (s : State) (e : Event) : (s.raise e).freeIndex = s.freeIndex := by simp [State.raise]
@[simp] theorem State.raise_pending (s : State) (e : Event) : (s.raise e).pending = s.pending := by simp [State.raise]

/-- The mask of an event has its bit. -/
theorem Event.mask_bit (e : Event) : e.mask.getLsbD e.bit.val = true := by cases e <;> decide

end Sys2Proof.Machine
end

