-- ==== Sys2Proof/Laws/Calm.lean ====
section
/-! SUPPORT. The calm part of a state: the input pins, the surge items, the profile, the clock, the queue, the Pair Supervisor's part-wide
items and the pairs' states. Every operation of the Landing Unit, Resequencer, Delivery Unit, Submission Unit, Distributor and Report Unit
keeps it: one lemma for each. -/

namespace Sys2Proof.Machine

set_option linter.unusedSimpArgs false

/-- The parts that only resets, the Profile Unit, the Timebase, the Surge Monitor and the Pair Supervisor change. -/
structure Calm where
  resetN    : Bool
  surgeN    : Bool
  straps    : BitVec 4
  surge     : Surge
  prof      : ProfileUnit
  clock     : Clock
  freeIndex : Nat
  pending   : List Instr
  stopView  : Bool
  states    : List PairState

def State.calm (s : State) : Calm :=
  ⟨s.pins.resetN, s.pins.surgeN, s.pins.straps, s.surge, s.prof, s.clock, s.freeIndex, s.pending, s.sup.stopView,
    s.pairs.toList.map PairRec.state⟩

/-- A change of a record that keeps its state keeps the states. -/
theorem State.states_modPair (s : State) (p : Pair) (f : PairRec → PairRec) (h : ∀ r, (f r).state = r.state) :
    (s.modPair p f).pairs.toList.map PairRec.state = s.pairs.toList.map PairRec.state := by
  apply List.ext_getElem
  · simp
  · intro i h1 h2
    simp only [State.modPair_pairs, List.getElem_map, Vector.getElem_toList, Vector.getElem_set]
    split
    · next e => subst e; exact h _
    · rfl

@[simp] theorem State.calm_modPair (s : State) (p : Pair) (f : PairRec → PairRec) (h : ∀ r, (f r).state = r.state) :
    (s.modPair p f).calm = s.calm := by
  simp only [State.calm, s.states_modPair p f h]; rfl

/-- A calm operation for each pair keeps the calm part. -/
theorem State.calm_forPairs (s : State) (f : State → Pair → State) (h : ∀ t p, (f t p).calm = t.calm) :
    (s.forPairs f).calm = s.calm := by
  simp [State.forPairs, allPairs, h]

/-- A calm operation for each item of a list keeps the calm part. -/
theorem State.calm_foldl {α : Type} (f : State → α → State) (h : ∀ t x, (f t x).calm = t.calm) (l : List α) (s : State) :
    (l.foldl f s).calm = s.calm := by
  induction l generalizing s with
  | nil => rfl
  | cons x xs ih => rw [List.foldl_cons, ih, h]

/-- The states of two calm-equal states agree. -/
theorem State.state_of_calm {s t : State} (h : s.calm = t.calm) (p : Pair) : (s.pair p).state = (t.pair p).state := by
  have e : s.pairs.toList.map PairRec.state = t.pairs.toList.map PairRec.state := congrArg Calm.states h
  have := congrArg (fun l => l[p.val]?) e
  simpa [State.pair] using this

/-! ## Record updates of the parts that are not calm -/

theorem State.calm_path (s : State) (x : Path) : State.calm { s with path := x } = s.calm := rfl
theorem State.calm_pairs (s : State) (x : Vector PairRec 8) (h : x.toList.map PairRec.state = s.pairs.toList.map PairRec.state) :
    State.calm { s with pairs := x } = s.calm := by simp [State.calm, h]
theorem State.calm_reseq (s : State) (x : Reseq) : State.calm { s with reseq := x } = s.calm := rfl
theorem State.calm_deliv (s : State) (x : Delivery) : State.calm { s with deliv := x } = s.calm := rfl
theorem State.calm_rep (s : State) (x : Report) : State.calm { s with rep := x } = s.calm := rfl

@[simp] theorem PairRec.state_setCell (r : PairRec) (c : Nat) (x : Cell) : (r.setCell c x).state = r.state := rfl
@[simp] theorem PairRec.state_forgetLearned (r : PairRec) : r.forgetLearned.state = r.state := by
  unfold PairRec.forgetLearned; (repeat' split) <;> rfl

/-! ## One lemma for each operation -/

@[simp] theorem State.calm_bump (s : State) (c : GCounter) (n : Nat) : (s.bump c n).calm = s.calm := by
  simp [State.calm]

@[simp] theorem State.calm_bumpPair (s : State) (p : Pair) (c : PCounter) (n : Nat) : (s.bumpPair p c n).calm = s.calm := by
  exact State.calm_modPair _ _ _ fun _ => rfl

@[simp] theorem State.calm_respond (s : State) (r : Response) : (s.respond r).calm = s.calm := by
  simp [State.calm]

@[simp] theorem State.calm_setUp (s : State) (l : List UpTx) : (s.setUp l).calm = s.calm := by
  simp [State.calm]

@[simp] theorem State.calm_setStage (s : State) (l : Label) (g : UpStage) : (s.setStage l g).calm = s.calm := by
  simp [State.calm]

@[simp] theorem State.calm_closeUp (s : State) (r : Response) : (s.closeUp r).calm = s.calm := by
  simp [State.calm]

@[simp] theorem State.calm_setDown (s : State) (d : Label) (t : Option DownTx) : (s.setDown d t).calm = s.calm := by
  simp [State.calm]

@[simp] theorem State.calm_post (s : State) (t : Target) (v : List Word) : (s.post t v).calm = s.calm := by
  simp [State.calm]

@[simp] theorem State.calm_postWord (s : State) (o : Nat) (w : Word) : (s.postWord o w).calm = s.calm := by
  simp [State.calm]

@[simp] theorem State.calm_postCount (s : State) (o : Nat) (c : Half) : (s.postCount o c).calm = s.calm := by
  simp [State.calm]

@[simp] theorem State.calm_refreshAttn (s : State) : s.refreshAttn.calm = s.calm := by
  simp [State.calm]

@[simp] theorem State.calm_setEvent (s : State) (e : Event) : (s.setEvent e).calm = s.calm := by
  rfl

@[simp] theorem State.calm_postEventWord (s : State) : s.postEventWord.calm = s.calm := by
  simp [State.calm]

@[simp] theorem State.calm_raise (s : State) (e : Event) : (s.raise e).calm = s.calm := by
  simp [State.raise]

@[simp] theorem State.calm_setQueue (s : State) (q : List FrameRec) : (s.setQueue q).calm = s.calm := by
  simp [State.calm]

@[simp] theorem State.calm_setWindow (s : State) (w : List Pos) : (s.setWindow w).calm = s.calm := by
  simp [State.calm]

@[simp] theorem State.calm_aim (s : State) : s.aim.calm = s.calm := by
  simp [State.calm]

@[simp] theorem State.calm_modSubm (s : State) (f : Submission → Submission) : (s.modSubm f).calm = s.calm := by
  simp [State.calm]

@[simp] theorem State.calm_modDist (s : State) (f : Dist → Dist) : (s.modDist f).calm = s.calm := by
  simp [State.calm]

@[simp] theorem State.calm_modRep (s : State) (f : Report → Report) : (s.modRep f).calm = s.calm := by
  simp [State.calm]

@[simp] theorem State.calm_setLock (s : State) (l : Option Lock) : (s.setLock l).calm = s.calm := by
  simp [State.calm]

@[simp] theorem State.calm_setPointer (s : State) (l : List PointerEntry) : (s.setPointer l).calm = s.calm := by
  simp [State.calm]

@[simp] theorem State.calm_clearOnRead (s : State) (h : Half) : (s.clearOnRead h).calm = s.calm := by
  unfold State.clearOnRead
  try simp only []
  (repeat' split) <;> (try simp [↓State.calm_reseq, ↓State.calm_deliv, ↓State.calm_path, ↓State.calm_rep, ↓apply_ite State.calm,
    State.calm_forPairs, State.calm_foldl]) <;> (try rw [State.calm_modPair _ _ _ (by intro r; first | rfl | simp)]) <;> (try simp [↓State.calm_reseq, ↓State.calm_deliv, ↓State.calm_path, ↓State.calm_rep, ↓apply_ite State.calm,
    State.calm_forPairs, State.calm_foldl]) <;> (try rw [State.calm_modPair _ _ _ (by intro r; first | rfl | simp)]) <;> (try simp [↓State.calm_reseq, ↓State.calm_deliv, ↓State.calm_path, ↓State.calm_rep, ↓apply_ite State.calm,
    State.calm_forPairs, State.calm_foldl])

@[simp] theorem State.calm_releaseAdvance (s : State) (p : Pair) : (s.releaseAdvance p).calm = s.calm := by
  unfold State.releaseAdvance; (repeat' split) <;> simp

@[simp] theorem State.calm_drainedNotice (s : State) (p : Pair) (b : Bool) : (s.drainedNotice p b).calm = s.calm := by
  unfold State.drainedNotice; (repeat' split) <;> simp

@[simp] theorem State.calm_vacate (s : State) (p : Pair) (c : Nat) : (s.vacate p c).calm = s.calm := by
  unfold State.vacate; rw [State.calm_drainedNotice]; exact State.calm_modPair _ _ _ fun _ => rfl

@[simp] theorem State.calm_cellFree (s : State) (p : Pair) (c : Nat) : (s.cellFree p c).calm = s.calm := by
  simp [State.cellFree]

@[simp] theorem State.calm_freeUse (s : State) (p : Pair) (c : Nat) (u : Half) : (s.freeUse p c u).calm = s.calm := by
  unfold State.freeUse; (repeat' split) <;> simp

@[simp] theorem State.calm_passCell (s : State) (p : Pair) (c : Nat) (u : Half) : (s.passCell p c u).calm = s.calm := by
  unfold State.passCell
  (repeat' split) <;> (try simp) <;> (try rw [State.calm_modPair _ _ _ (by intro r; first | rfl | simp)])

@[simp] theorem State.calm_forgetLearned (s : State) (p : Pair) : (s.forgetLearned p).calm = s.calm := by
  unfold State.forgetLearned; (repeat' split) <;> simp

@[simp] theorem State.calm_endLanding (s : State) (p : Pair) : (s.endLanding p).calm = s.calm := by
  unfold State.endLanding; (repeat' split) <;> simp

@[simp] theorem State.calm_landingOut (s : State) (p : Pair) : (s.landingOut p).calm = s.calm := by
  unfold State.landingOut; (repeat' split) <;> simp

@[simp] theorem State.calm_landingStart (s : State) (p : Pair) : (s.landingStart p).calm = s.calm := by
  unfold State.landingStart; simp only []; (repeat' split) <;> simp

@[simp] theorem State.calm_buildRing (s : State) (p : Pair) (n : Nat) : (s.buildRing p n).calm = s.calm := by
  unfold State.buildRing; (repeat' split) <;> simp

@[simp] theorem State.calm_postRecord (s : State) (f : FrameRec) : (s.postRecord f).calm = s.calm := by
  unfold State.postRecord; (repeat' split) <;> simp

@[simp] theorem State.calm_postProducer (s : State) : s.postProducer.calm = s.calm := by
  unfold State.postProducer; (repeat' split) <;> simp

@[simp] theorem State.calm_postDeliveryCounts (s : State) : s.postDeliveryCounts.calm = s.calm := by
  unfold State.postDeliveryCounts; (repeat' split) <;> simp

@[simp] theorem State.calm_postDeliveryRing (s : State) : s.postDeliveryRing.calm = s.calm := by
  unfold State.postDeliveryRing; (repeat' split) <;> simp [State.calm_forPairs, State.calm_foldl]

@[simp] theorem State.calm_takeFrame (s : State) (l : List FragEntry) : (s.takeFrame l).calm = s.calm := by
  unfold State.takeFrame; simp only []; (repeat' split) <;> simp [↓State.calm_reseq, ↓State.calm_deliv, State.calm_foldl]

@[simp] theorem State.calm_freeFragments (s : State) (l : List FragEntry) : (s.freeFragments l).calm = s.calm := by
  unfold State.freeFragments
  try simp only []
  (repeat' split) <;> (try simp [↓State.calm_reseq, ↓State.calm_deliv, ↓State.calm_path, ↓State.calm_rep, ↓apply_ite State.calm,
    State.calm_forPairs, State.calm_foldl]) <;> (try rw [State.calm_modPair _ _ _ (by intro r; first | rfl | simp)]) <;> (try simp [↓State.calm_reseq, ↓State.calm_deliv, ↓State.calm_path, ↓State.calm_rep, ↓apply_ite State.calm,
    State.calm_forPairs, State.calm_foldl]) <;> (try rw [State.calm_modPair _ _ _ (by intro r; first | rfl | simp)]) <;> (try simp [↓State.calm_reseq, ↓State.calm_deliv, ↓State.calm_path, ↓State.calm_rep, ↓apply_ite State.calm,
    State.calm_forPairs, State.calm_foldl])

@[simp] theorem State.calm_leaveQueue (s : State) : s.leaveQueue.calm = s.calm := by
  unfold State.leaveQueue; simp only []; (repeat' split) <;> simp [↓State.calm_reseq, ↓State.calm_deliv, State.calm_foldl]

@[simp] theorem State.calm_retire (s : State) (a : Nat) : (s.retire a).calm = s.calm := by
  unfold State.retire
  try simp only []
  (repeat' split) <;> (try simp [↓State.calm_reseq, ↓State.calm_deliv, ↓State.calm_path, ↓State.calm_rep, ↓apply_ite State.calm,
    State.calm_forPairs, State.calm_foldl]) <;> (try rw [State.calm_modPair _ _ _ (by intro r; first | rfl | simp)]) <;> (try simp [↓State.calm_reseq, ↓State.calm_deliv, ↓State.calm_path, ↓State.calm_rep, ↓apply_ite State.calm,
    State.calm_forPairs, State.calm_foldl]) <;> (try rw [State.calm_modPair _ _ _ (by intro r; first | rfl | simp)]) <;> (try simp [↓State.calm_reseq, ↓State.calm_deliv, ↓State.calm_path, ↓State.calm_rep, ↓apply_ite State.calm,
    State.calm_forPairs, State.calm_foldl])

@[simp] theorem State.calm_takeConsumer (s : State) (v : Half) : (s.takeConsumer v).calm = s.calm := by
  unfold State.takeConsumer; simp only []; (repeat' split) <;> simp [↓State.calm_reseq, ↓State.calm_deliv, State.calm_foldl]

@[simp] theorem State.calm_deliveryVoid (s : State) (p : Pair) (c : Nat) (u : Half) : (s.deliveryVoid p c u).calm = s.calm := by
  unfold State.deliveryVoid; (repeat' split) <;> simp

@[simp] theorem State.calm_modFrame (s : State) (c : Half) (g : FrameRec → FrameRec) : (s.modFrame c g).calm = s.calm := by
  unfold State.modFrame; (repeat' split) <;> simp

@[simp] theorem State.calm_dropPin (s : State) (c : Half) : (s.dropPin c).calm = s.calm := by
  unfold State.dropPin; simp only []; (repeat' split) <;> simp

@[simp] theorem State.calm_answerRedirect (s : State) (t : UpTx) (r : Redirect) : (s.answerRedirect t r).calm = s.calm := by
  unfold State.answerRedirect; (repeat' split) <;> simp

@[simp] theorem State.calm_pieceEnded (s : State) (l : Label) (b : Bool) (w : Option (List Word)) :
    (s.pieceEnded l b w).calm = s.calm := by
  unfold State.pieceEnded; simp only []; (repeat' split) <;> simp

@[simp] theorem State.calm_moveHead (s : State) (n : Nat) : (s.moveHead n).calm = s.calm := by
  unfold State.moveHead
  try simp only []
  (repeat' split) <;> (try simp [↓State.calm_reseq, ↓State.calm_deliv, ↓State.calm_path, ↓State.calm_rep, ↓apply_ite State.calm,
    State.calm_forPairs, State.calm_foldl]) <;> (try rw [State.calm_modPair _ _ _ (by intro r; first | rfl | simp)]) <;> (try simp [↓State.calm_reseq, ↓State.calm_deliv, ↓State.calm_path, ↓State.calm_rep, ↓apply_ite State.calm,
    State.calm_forPairs, State.calm_foldl]) <;> (try rw [State.calm_modPair _ _ _ (by intro r; first | rfl | simp)]) <;> (try simp [↓State.calm_reseq, ↓State.calm_deliv, ↓State.calm_path, ↓State.calm_rep, ↓apply_ite State.calm,
    State.calm_forPairs, State.calm_foldl])

@[simp] theorem State.calm_passLost (s : State) (n : Nat) : (s.passLost n).calm = s.calm := by
  unfold State.passLost; rw [State.calm_moveHead]; exact State.calm_bump s .lostSequence n

@[simp] theorem State.calm_passOrphan (s : State) (r : Landed) : (s.passOrphan r).calm = s.calm := by
  unfold State.passOrphan; (repeat' split) <;> simp

@[simp] theorem State.calm_discardHead (s : State) (r : Landed) (c : GCounter) : (s.discardHead r c).calm = s.calm := by
  unfold State.discardHead; rw [State.calm_moveHead]; exact (State.calm_bump (s.freeUse r.pair r.cell r.use) c 1).trans (by simp)

@[simp] theorem State.calm_handOff (s : State) (n : Nat) : (s.handOff n).calm = s.calm := by
  unfold State.handOff; rw [State.calm_moveHead]; exact (State.calm_bump (s.takeFrame _) .framesAssembled 1).trans (by simp)

@[simp] theorem State.calm_block (s : State) : s.block.calm = s.calm := by
  unfold State.block; (repeat' split) <;> simp [↓State.calm_reseq, ↓State.calm_deliv, ↓State.calm_path, ↓State.calm_rep]

@[simp] theorem State.calm_headRun (n : Nat) (s : State) : (State.headRun n s).calm = s.calm := by
  induction n generalizing s with
  | zero => rfl
  | succ n ih => unfold State.headRun; (repeat' split) <;> simp [ih]

@[simp] theorem State.calm_headProcess (s : State) : s.headProcess.calm = s.calm := by
  unfold State.headProcess; (repeat' split) <;> simp [↓State.calm_reseq, ↓State.calm_deliv, ↓State.calm_path, ↓State.calm_rep]

@[simp] theorem State.calm_settle (s : State) : s.settle.calm = s.calm := by
  unfold State.settle; (repeat' split) <;> simp

@[simp] theorem State.calm_declare (s : State) (n : Nat) : (s.declare n).calm = s.calm := by
  unfold State.declare; (repeat' split) <;> simp

@[simp] theorem State.calm_close (s : State) : s.close.calm = s.calm := by
  unfold State.close; simp only []; (repeat' split) <;> simp

@[simp] theorem State.calm_closeOnDeparture (s : State) (p : Pair) : (s.closeOnDeparture p).calm = s.calm := by
  unfold State.closeOnDeparture; simp only []; (repeat' split) <;> simp

@[simp] theorem State.calm_skewExpire (s : State) (k : Skew) : (s.skewExpire k).calm = s.calm := by
  unfold State.skewExpire; (repeat' split) <;> simp

@[simp] theorem State.calm_clearPosition (s : State) (x : Pos) : (s.clearPosition x).calm = s.calm := by
  unfold State.clearPosition; (repeat' split) <;> simp

@[simp] theorem State.calm_windowClear (s : State) : s.windowClear.calm = s.calm := by
  unfold State.windowClear
  try simp only []
  (repeat' split) <;> (try simp [↓State.calm_reseq, ↓State.calm_deliv, ↓State.calm_path, ↓State.calm_rep, ↓apply_ite State.calm,
    State.calm_forPairs, State.calm_foldl]) <;> (try rw [State.calm_modPair _ _ _ (by intro r; first | rfl | simp)]) <;> (try simp [↓State.calm_reseq, ↓State.calm_deliv, ↓State.calm_path, ↓State.calm_rep, ↓apply_ite State.calm,
    State.calm_forPairs, State.calm_foldl]) <;> (try rw [State.calm_modPair _ _ _ (by intro r; first | rfl | simp)]) <;> (try simp [↓State.calm_reseq, ↓State.calm_deliv, ↓State.calm_path, ↓State.calm_rep, ↓apply_ite State.calm,
    State.calm_forPairs, State.calm_foldl])

@[simp] theorem State.calm_bondClear (s : State) : s.bondClear.calm = s.calm := by
  unfold State.bondClear; (repeat' split) <;> simp [↓State.calm_reseq, ↓State.calm_deliv, ↓State.calm_path, ↓State.calm_rep]

@[simp] theorem State.calm_receiveRestart (s : State) (g : Byte) : (s.receiveRestart g).calm = s.calm := by
  unfold State.receiveRestart; (repeat' split) <;> simp [↓State.calm_reseq, ↓State.calm_deliv, ↓State.calm_path, ↓State.calm_rep]

@[simp] theorem State.calm_windowVoid (s : State) (p : Pair) (c : Nat) (u : Half) : (s.windowVoid p c u).calm = s.calm := by
  unfold State.windowVoid; (repeat' split) <;> simp

@[simp] theorem State.calm_dropData (s : State) (a : DataRecord) (c : PCounter) : (s.dropData a c).calm = s.calm := by
  unfold State.dropData; (repeat' split) <;> simp

@[simp] theorem State.calm_landAt (s : State) (a : DataRecord) (d : Nat) : (s.landAt a d).calm = s.calm := by
  unfold State.landAt; simp only []
  (repeat' split) <;> (try simp) <;> (try rw [State.calm_modPair _ _ _ (by intro r; first | rfl | simp)]) <;> (try simp) <;> (try rw [State.calm_modPair _ _ _ (by intro r; first | rfl | simp)])

@[simp] theorem State.calm_enterWindow (s : State) (a : DataRecord) (d : Nat) : (s.enterWindow a d).calm = s.calm := by
  unfold State.enterWindow; simp only []; (repeat' split) <;> simp

@[simp] theorem State.calm_forcedWalk (n m : Nat) (s : State) : (State.forcedWalk n m s).calm = s.calm := by
  induction n generalizing m s with
  | zero => rfl
  | succ n ih =>
    cases m with
    | zero => rfl
    | succ m => unfold State.forcedWalk; simp only []; (repeat' split) <;> simp [ih]

@[simp] theorem State.calm_forcedAdvance (s : State) (a : DataRecord) (d : Nat) : (s.forcedAdvance a d).calm = s.calm := by
  unfold State.forcedAdvance; (repeat' split) <;> simp

@[simp] theorem State.calm_placeData (s : State) (a : DataRecord) : (s.placeData a).calm = s.calm := by
  unfold State.placeData; simp only []; (repeat' split) <;> simp

@[simp] theorem State.calm_admitData (s : State) (a : DataRecord) : (s.admitData a).calm = s.calm := by
  unfold State.admitData; (repeat' split) <;> simp [↓State.calm_reseq, ↓State.calm_deliv, ↓State.calm_path, ↓State.calm_rep]

@[simp] theorem State.calm_recount (s : State) : s.recount.calm = s.calm := by
  unfold State.recount; (repeat' split) <;> simp

@[simp] theorem State.calm_complete (s : State) (a : Nat) (st : Status) (f : Nat) (h : Half) :
    (s.complete a st f h).calm = s.calm := by
  unfold State.complete; (repeat' split) <;> simp

@[simp] theorem State.calm_completeEntry (s : State) (e : TxEntry) (st : Status) : (s.completeEntry e st).calm = s.calm := by
  unfold State.completeEntry; (repeat' split) <;> simp

@[simp] theorem State.calm_takeProducer (s : State) (v : Half) : (s.takeProducer v).calm = s.calm := by
  unfold State.takeProducer; (repeat' split) <;> simp

@[simp] theorem State.calm_offerFetch (s : State) : s.offerFetch.calm = s.calm := by
  unfold State.offerFetch; (repeat' split) <;> simp

@[simp] theorem State.calm_fetched (s : State) (f : Fetch) (r : SubmissionRecord) : (s.fetched f r).calm = s.calm := by
  unfold State.fetched; (repeat' split) <;> simp

@[simp] theorem State.calm_fetchFailed (s : State) (f : Fetch) : (s.fetchFailed f).calm = s.calm := by
  unfold State.fetchFailed; (repeat' split) <;> simp

@[simp] theorem State.calm_modEntry (s : State) (n : Half) (f : TxEntry → TxEntry) : (s.modEntry n f).calm = s.calm := by
  unfold State.modEntry; (repeat' split) <;> simp

@[simp] theorem State.calm_expireAge (s : State) (n : Half) : (s.expireAge n).calm = s.calm := by
  unfold State.expireAge; (repeat' split) <;> simp

@[simp] theorem State.calm_takeRing (s : State) : s.takeRing.calm = s.calm := by
  unfold State.takeRing; (repeat' split) <;> simp

@[simp] theorem State.calm_ringChanged (s : State) : s.ringChanged.calm = s.calm := by
  unfold State.ringChanged; (repeat' split) <;> simp

@[simp] theorem State.calm_abortWaiting (s : State) : s.abortWaiting.calm = s.calm := by
  unfold State.abortWaiting; (repeat' split) <;> simp [State.calm_forPairs, State.calm_foldl]

@[simp] theorem State.calm_postAlloc (s : State) (p : Pair) : (s.postAlloc p).calm = s.calm := by
  unfold State.postAlloc; (repeat' split) <;> simp

@[simp] theorem State.calm_postTxCounts (s : State) (p : Pair) : (s.postTxCounts p).calm = s.calm := by
  unfold State.postTxCounts; (repeat' split) <;> simp

@[simp] theorem State.calm_reallocate (s : State) (p : Pair) (a : Alloc) : (s.reallocate p a).calm = s.calm := by
  unfold State.reallocate
  (repeat' split) <;> (try simp) <;> (try rw [State.calm_modPair _ _ _ (by intro r; first | rfl | simp)])

@[simp] theorem State.calm_installTarget (s : State) (t : AllocTarget) : (s.installTarget t).calm = s.calm := by
  unfold State.installTarget; (repeat' split) <;> simp [State.calm_forPairs, State.calm_foldl]

@[simp] theorem State.calm_postTransmitWords (s : State) : s.postTransmitWords.calm = s.calm := by
  unfold State.postTransmitWords; (repeat' split) <;> simp [State.calm_forPairs, State.calm_foldl]

@[simp] theorem State.calm_takeTxConsumer (s : State) (p : Pair) (v : Half) : (s.takeTxConsumer p v).calm = s.calm := by
  unfold State.takeTxConsumer; (repeat' split) <;> simp

@[simp] theorem State.calm_transmitStart (s : State) (p : Pair) : (s.transmitStart p).calm = s.calm := by
  unfold State.transmitStart
  (repeat' split) <;> (try simp) <;> (try rw [State.calm_modPair _ _ _ (by intro r; first | rfl | simp)])

@[simp] theorem State.calm_giveUpCell (s : State) (w : Work) : (s.giveUpCell w).calm = s.calm := by
  unfold State.giveUpCell; (repeat' split) <;> simp

@[simp] theorem State.calm_endAbandoned (s : State) (w : Work) : (s.endAbandoned w).calm = s.calm := by
  unfold State.endAbandoned; (repeat' split) <;> simp

@[simp] theorem State.calm_abandonWork (s : State) (w : Work) : (s.abandonWork w).calm = s.calm := by
  unfold State.abandonWork; (repeat' split) <;> simp

@[simp] theorem State.calm_recheckWork (s : State) : s.recheckWork.calm = s.calm := by
  unfold State.recheckWork; (repeat' split) <;> simp

@[simp] theorem State.calm_abandonData (s : State) : s.abandonData.calm = s.calm := by
  unfold State.abandonData; (repeat' split) <;> simp

@[simp] theorem State.calm_closeFrame (s : State) (n : Half) (st : Status) : (s.closeFrame n st).calm = s.calm := by
  unfold State.closeFrame; simp only []; (repeat' split) <;> simp

@[simp] theorem State.calm_releaseFrame (s : State) (st : Status) : (s.releaseFrame st).calm = s.calm := by
  unfold State.releaseFrame; (repeat' split) <;> simp

@[simp] theorem State.calm_copyFault (s : State) (w : Work) : (s.copyFault w).calm = s.calm := by
  unfold State.copyFault; (repeat' split) <;> simp

@[simp] theorem State.calm_copierFailed (s : State) (w : Work) : (s.copierFailed w).calm = s.calm := by
  unfold State.copierFailed; (repeat' split) <;> simp

@[simp] theorem State.calm_round (s : State) : s.round.calm = s.calm := by
  unfold State.round
  try simp only []
  (repeat' split) <;> (try simp [↓State.calm_reseq, ↓State.calm_deliv, ↓State.calm_path, ↓State.calm_rep, ↓apply_ite State.calm,
    State.calm_forPairs, State.calm_foldl]) <;> (try rw [State.calm_modPair _ _ _ (by intro r; first | rfl | simp)]) <;> (try simp [↓State.calm_reseq, ↓State.calm_deliv, ↓State.calm_path, ↓State.calm_rep, ↓apply_ite State.calm,
    State.calm_forPairs, State.calm_foldl]) <;> (try rw [State.calm_modPair _ _ _ (by intro r; first | rfl | simp)]) <;> (try simp [↓State.calm_reseq, ↓State.calm_deliv, ↓State.calm_path, ↓State.calm_rep, ↓apply_ite State.calm,
    State.calm_forPairs, State.calm_foldl])

@[simp] theorem State.calm_replenish (c : Cut) (n : Nat) (s : State) : (State.replenish c n s).calm = s.calm := by
  induction n generalizing s with
  | zero => rfl
  | succ n ih => unfold State.replenish; split <;> simp [ih]

@[simp] theorem State.calm_takeWork (s : State) (w : Work) : (s.takeWork w).calm = s.calm := by
  unfold State.takeWork; (repeat' split) <;> simp

@[simp] theorem State.calm_takeFragment (s : State) (b : Nat) (p : Pair) (f : Frag) : (s.takeFragment b p f).calm = s.calm := by
  unfold State.takeFragment; (repeat' split) <;> simp

@[simp] theorem State.calm_placeNew (s : State) (c : Cut) : (s.placeNew c).calm = s.calm := by
  unfold State.placeNew; simp only []; (repeat' split) <;> simp

@[simp] theorem State.calm_placeOld (s : State) (c : Cut) : (s.placeOld c).calm = s.calm := by
  unfold State.placeOld; simp only []; (repeat' split) <;> simp

@[simp] theorem State.calm_placeControl (s : State) (k : WorkKind) (p : Pair) (l : List Word) :
    (s.placeControl k p l).calm = s.calm := by
  unfold State.placeControl; (repeat' split) <;> simp

@[simp] theorem State.calm_placeStatus (s : State) (p : Pair) : (s.placeStatus p).calm = s.calm := by
  unfold State.placeStatus; (repeat' split) <;> simp

@[simp] theorem State.calm_placeProve (s : State) (p : Pair) : (s.placeProve p).calm = s.calm := by
  unfold State.placeProve; (repeat' split) <;> simp

@[simp] theorem State.calm_copierReadOk (s : State) (w : Work) (l : List Word) : (s.copierReadOk w l).calm = s.calm := by
  unfold State.copierReadOk; (repeat' split) <;> simp

@[simp] theorem State.calm_publishCell (s : State) (w : Work) : (s.publishCell w).calm = s.calm := by
  unfold State.publishCell
  (repeat' split) <;> (try simp) <;> (try rw [State.calm_modPair _ _ _ (by intro r; first | rfl | simp)])

@[simp] theorem State.calm_publishData (s : State) (w : Work) (f : Frag) : (s.publishData w f).calm = s.calm := by
  unfold State.publishData; simp only []; (repeat' split) <;> simp

@[simp] theorem State.calm_publishProve (s : State) (w : Work) : (s.publishProve w).calm = s.calm := by
  unfold State.publishProve
  rw [State.calm_modPair _ _ _ (by intro r; simp only []; split <;> rfl)]; exact State.calm_publishCell s w

@[simp] theorem State.calm_publish (s : State) (w : Work) : (s.publish w).calm = s.calm := by
  unfold State.publish; (repeat' split) <;> simp

@[simp] theorem State.calm_copierWriteOk (s : State) (w : Work) (n : Nat) : (s.copierWriteOk w n).calm = s.calm := by
  unfold State.copierWriteOk; simp only []; (repeat' split) <;> simp

@[simp] theorem State.calm_setGeneration (s : State) (b : Bool) (g : Byte) : (s.setGeneration b g).calm = s.calm := by
  unfold State.setGeneration; (repeat' split) <;> simp

@[simp] theorem State.calm_transmitRestart (s : State) : s.transmitRestart.calm = s.calm := by
  unfold State.transmitRestart; (repeat' split) <;> simp [State.calm_forPairs, State.calm_foldl]

@[simp] theorem State.calm_selectFrame (s : State) (e : TxEntry) : (s.selectFrame e).calm = s.calm := by
  unfold State.selectFrame; (repeat' split) <;> simp

@[simp] theorem State.calm_capCredits (s : State) : s.capCredits.calm = s.calm := by
  unfold State.capCredits; (repeat' split) <;> simp [State.calm_forPairs, State.calm_foldl]

@[simp] theorem State.calm_postPublication (s : State) (i : Nat) : (s.postPublication i).calm = s.calm := by
  unfold State.postPublication; (repeat' split) <;> simp

@[simp] theorem State.calm_startPublication (s : State) : s.startPublication.calm = s.calm := by
  unfold State.startPublication; (repeat' split) <;> simp

@[simp] theorem State.calm_becomeDue (s : State) : s.becomeDue.calm = s.calm := by
  unfold State.becomeDue; simp only []; (repeat' split) <;> simp

@[simp] theorem State.calm_publicationCause (s : State) : s.publicationCause.calm = s.calm := by
  unfold State.publicationCause; (repeat' split) <;> simp

@[simp] theorem State.calm_releaseHeld (s : State) : s.releaseHeld.calm = s.calm := by
  unfold State.releaseHeld; (repeat' split) <;> simp

@[simp] theorem State.calm_afterPublication (s : State) : s.afterPublication.calm = s.calm := by
  unfold State.afterPublication; (repeat' split) <;> simp

@[simp] theorem State.calm_endPublication (s : State) : s.endPublication.calm = s.calm := by
  unfold State.endPublication; simp only []; (repeat' split) <;> simp

@[simp] theorem State.calm_publicationAnswered (s : State) (b : Bool) : (s.publicationAnswered b).calm = s.calm := by
  unfold State.publicationAnswered; (repeat' split) <;> simp

@[simp] theorem State.calm_oneShot (s : State) : s.oneShot.calm = s.calm := by
  unfold State.oneShot; (repeat' split) <;> simp

@[simp] theorem State.calm_reportModeChange (s : State) (n : Nat) : (s.reportModeChange n).calm = s.calm := by
  unfold State.reportModeChange; simp only []; (repeat' split) <;> simp

end Sys2Proof.Machine
end

