-- ==== Sys2Proof/Laws/PerInstr.lean ====
section
/-! SUPPORT. For each command: its check is the check of what it carries, and nothing else of it is checked. -/

namespace Sys2Proof

/-- The address and word count of the transaction a command carries, for the four transaction rows. -/
def Instr.carriedTransaction : Instr → Option (Word × Nat)
  | .read _ _ addr words => some (addr, words)
  | .write _ _ addr data => some (addr, data.length)
  | .lockedRead _ _ addr words => some (addr, words)
  | .lockedWrite _ _ addr data => some (addr, data.length)
  | _ => none

/-- The answer a command carries, for the eight answer rows. -/
def Instr.carriedAnswer : Instr → Option Answer
  | .memoryAnswer _ a => some a
  | .pieceEnd _ a => some a
  | .fetchAnswer _ a => some a
  | .copierReadAnswer _ a => some a
  | .copierWriteAnswer _ a => some a
  | .pointerWriteAnswer _ a => some a
  | .eventWordWriteAnswer _ a => some a
  | .publicationWriteAnswer _ a => some a
  | _ => none

end Sys2Proof

namespace Sys2Proof.Laws

-- One lemma after the other: all of them wait for the same equations, and many waiting at once take more memory than a check allows.
set_option Elab.async false

/-- A command is well-formed exactly when the transaction and the answer it carries are. -/
def OperandCheck.Statement (i : Instr) : Prop :=
  i.wellFormed = true ↔
    (∀ x, i.carriedTransaction = some x → transactionOk x.1 x.2 = true) ∧ ∀ a, i.carriedAnswer = some a → a.sizeOk = true

theorem OperandCheck.read (label : Label) (tag : Tag) (addr : Word) (words : Nat) : OperandCheck.Statement (.read label tag addr words) := by
  simp [OperandCheck.Statement, Instr.wellFormed, Instr.carriedTransaction, Instr.carriedAnswer]

theorem OperandCheck.write (label : Label) (tag : Tag) (addr : Word) (data : List WriteWord) : OperandCheck.Statement (.write label tag addr data) := by
  simp [OperandCheck.Statement, Instr.wellFormed, Instr.carriedTransaction, Instr.carriedAnswer]

theorem OperandCheck.lockedRead (label : Label) (tag : Tag) (addr : Word) (words : Nat) : OperandCheck.Statement (.lockedRead label tag addr words) := by
  simp [OperandCheck.Statement, Instr.wellFormed, Instr.carriedTransaction, Instr.carriedAnswer]

theorem OperandCheck.lockedWrite (label : Label) (tag : Tag) (addr : Word) (data : List WriteWord) : OperandCheck.Statement (.lockedWrite label tag addr data) := by
  simp [OperandCheck.Statement, Instr.wellFormed, Instr.carriedTransaction, Instr.carriedAnswer]

theorem OperandCheck.arbiterGrant (down : Label) (us : Nat) : OperandCheck.Statement (.arbiterGrant down us) := by
  simp [OperandCheck.Statement, Instr.wellFormed, Instr.carriedTransaction, Instr.carriedAnswer]

theorem OperandCheck.lockLimitExpiry (us : Nat) : OperandCheck.Statement (.lockLimitExpiry us) := by
  simp [OperandCheck.Statement, Instr.wellFormed, Instr.carriedTransaction, Instr.carriedAnswer]

theorem OperandCheck.memoryAnswer (down : Label) (answer : Answer) : OperandCheck.Statement (.memoryAnswer down answer) := by
  simp [OperandCheck.Statement, Instr.wellFormed, Instr.carriedTransaction, Instr.carriedAnswer]

theorem OperandCheck.responseLimitExpiry (down : Label) (us : Nat) : OperandCheck.Statement (.responseLimitExpiry down us) := by
  simp [OperandCheck.Statement, Instr.wellFormed, Instr.carriedTransaction, Instr.carriedAnswer]

theorem OperandCheck.lateAnswer (down : Label) : OperandCheck.Statement (.lateAnswer down) := by
  simp [OperandCheck.Statement, Instr.wellFormed, Instr.carriedTransaction, Instr.carriedAnswer]

theorem OperandCheck.fullReset : OperandCheck.Statement (.fullReset) := by
  simp [OperandCheck.Statement, Instr.wellFormed, Instr.carriedTransaction, Instr.carriedAnswer]

theorem OperandCheck.resetRelease (us : Nat) : OperandCheck.Statement (.resetRelease us) := by
  simp [OperandCheck.Statement, Instr.wellFormed, Instr.carriedTransaction, Instr.carriedAnswer]

theorem OperandCheck.quietAnswerDiscard (down : Label) : OperandCheck.Statement (.quietAnswerDiscard down) := by
  simp [OperandCheck.Statement, Instr.wellFormed, Instr.carriedTransaction, Instr.carriedAnswer]

theorem OperandCheck.downstreamQuietEnd (us : Nat) : OperandCheck.Statement (.downstreamQuietEnd us) := by
  simp [OperandCheck.Statement, Instr.wellFormed, Instr.carriedTransaction, Instr.carriedAnswer]

theorem OperandCheck.roomNotice : OperandCheck.Statement (.roomNotice) := by
  simp [OperandCheck.Statement, Instr.wellFormed, Instr.carriedTransaction, Instr.carriedAnswer]

theorem OperandCheck.skewTimerExpiry : OperandCheck.Statement (.skewTimerExpiry) := by
  simp [OperandCheck.Statement, Instr.wellFormed, Instr.carriedTransaction, Instr.carriedAnswer]

theorem OperandCheck.pieceEnd (down : Label) (answer : Answer) : OperandCheck.Statement (.pieceEnd down answer) := by
  simp [OperandCheck.Statement, Instr.wellFormed, Instr.carriedTransaction, Instr.carriedAnswer]

theorem OperandCheck.fetchOffer : OperandCheck.Statement (.fetchOffer) := by
  simp [OperandCheck.Statement, Instr.wellFormed, Instr.carriedTransaction, Instr.carriedAnswer]

theorem OperandCheck.fetchAnswer (down : Label) (answer : Answer) : OperandCheck.Statement (.fetchAnswer down answer) := by
  simp [OperandCheck.Statement, Instr.wellFormed, Instr.carriedTransaction, Instr.carriedAnswer]

theorem OperandCheck.frameSelection : OperandCheck.Statement (.frameSelection) := by
  simp [OperandCheck.Statement, Instr.wellFormed, Instr.carriedTransaction, Instr.carriedAnswer]

theorem OperandCheck.ageExpiry (number : Half) : OperandCheck.Statement (.ageExpiry number) := by
  simp [OperandCheck.Statement, Instr.wellFormed, Instr.carriedTransaction, Instr.carriedAnswer]

theorem OperandCheck.stallExpiry : OperandCheck.Statement (.stallExpiry) := by
  simp [OperandCheck.Statement, Instr.wellFormed, Instr.carriedTransaction, Instr.carriedAnswer]

theorem OperandCheck.frameReleased : OperandCheck.Statement (.frameReleased) := by
  simp [OperandCheck.Statement, Instr.wellFormed, Instr.carriedTransaction, Instr.carriedAnswer]

theorem OperandCheck.submissionRingTakeIntoUse : OperandCheck.Statement (.submissionRingTakeIntoUse) := by
  simp [OperandCheck.Statement, Instr.wellFormed, Instr.carriedTransaction, Instr.carriedAnswer]

theorem OperandCheck.recomputeTakeIntoUse : OperandCheck.Statement (.recomputeTakeIntoUse) := by
  simp [OperandCheck.Statement, Instr.wellFormed, Instr.carriedTransaction, Instr.carriedAnswer]

theorem OperandCheck.dataPlacement : OperandCheck.Statement (.dataPlacement) := by
  simp [OperandCheck.Statement, Instr.wellFormed, Instr.carriedTransaction, Instr.carriedAnswer]

theorem OperandCheck.replaced : OperandCheck.Statement (.replaced) := by
  simp [OperandCheck.Statement, Instr.wellFormed, Instr.carriedTransaction, Instr.carriedAnswer]

theorem OperandCheck.statusPlacement : OperandCheck.Statement (.statusPlacement) := by
  simp [OperandCheck.Statement, Instr.wellFormed, Instr.carriedTransaction, Instr.carriedAnswer]

theorem OperandCheck.provePlacement : OperandCheck.Statement (.provePlacement) := by
  simp [OperandCheck.Statement, Instr.wellFormed, Instr.carriedTransaction, Instr.carriedAnswer]

theorem OperandCheck.copierReadAnswer (down : Label) (answer : Answer) : OperandCheck.Statement (.copierReadAnswer down answer) := by
  simp [OperandCheck.Statement, Instr.wellFormed, Instr.carriedTransaction, Instr.carriedAnswer]

theorem OperandCheck.copierWriteAnswer (down : Label) (answer : Answer) : OperandCheck.Statement (.copierWriteAnswer down answer) := by
  simp [OperandCheck.Statement, Instr.wellFormed, Instr.carriedTransaction, Instr.carriedAnswer]

theorem OperandCheck.statusTimerExpiry (pair : Pair) : OperandCheck.Statement (.statusTimerExpiry pair) := by
  simp [OperandCheck.Statement, Instr.wellFormed, Instr.carriedTransaction, Instr.carriedAnswer]

theorem OperandCheck.drainedPairStart (pair : Pair) : OperandCheck.Statement (.drainedPairStart pair) := by
  simp [OperandCheck.Statement, Instr.wellFormed, Instr.carriedTransaction, Instr.carriedAnswer]

theorem OperandCheck.provingPeriodEnd (pair : Pair) : OperandCheck.Statement (.provingPeriodEnd pair) := by
  simp [OperandCheck.Statement, Instr.wellFormed, Instr.carriedTransaction, Instr.carriedAnswer]

theorem OperandCheck.retryHoldoffExpiry (pair : Pair) : OperandCheck.Statement (.retryHoldoffExpiry pair) := by
  simp [OperandCheck.Statement, Instr.wellFormed, Instr.carriedTransaction, Instr.carriedAnswer]

theorem OperandCheck.silenceExpiry (pair : Pair) : OperandCheck.Statement (.silenceExpiry pair) := by
  simp [OperandCheck.Statement, Instr.wellFormed, Instr.carriedTransaction, Instr.carriedAnswer]

theorem OperandCheck.lossHoldoffExpiry (pair : Pair) : OperandCheck.Statement (.lossHoldoffExpiry pair) := by
  simp [OperandCheck.Statement, Instr.wellFormed, Instr.carriedTransaction, Instr.carriedAnswer]

theorem OperandCheck.penaltyEnd (pair : Pair) : OperandCheck.Statement (.penaltyEnd pair) := by
  simp [OperandCheck.Statement, Instr.wellFormed, Instr.carriedTransaction, Instr.carriedAnswer]

theorem OperandCheck.quarantineFactorReset (pair : Pair) : OperandCheck.Statement (.quarantineFactorReset pair) := by
  simp [OperandCheck.Statement, Instr.wellFormed, Instr.carriedTransaction, Instr.carriedAnswer]

theorem OperandCheck.surgeFallingEdge : OperandCheck.Statement (.surgeFallingEdge) := by
  simp [OperandCheck.Statement, Instr.wellFormed, Instr.carriedTransaction, Instr.carriedAnswer]

theorem OperandCheck.surgeRisingEdge : OperandCheck.Statement (.surgeRisingEdge) := by
  simp [OperandCheck.Statement, Instr.wellFormed, Instr.carriedTransaction, Instr.carriedAnswer]

theorem OperandCheck.epochBoundary : OperandCheck.Statement (.epochBoundary) := by
  simp [OperandCheck.Statement, Instr.wellFormed, Instr.carriedTransaction, Instr.carriedAnswer]

theorem OperandCheck.referenceAcquired : OperandCheck.Statement (.referenceAcquired) := by
  simp [OperandCheck.Statement, Instr.wellFormed, Instr.carriedTransaction, Instr.carriedAnswer]

theorem OperandCheck.referenceLost : OperandCheck.Statement (.referenceLost) := by
  simp [OperandCheck.Statement, Instr.wellFormed, Instr.carriedTransaction, Instr.carriedAnswer]

theorem OperandCheck.pointerWriteAnswer (down : Label) (answer : Answer) : OperandCheck.Statement (.pointerWriteAnswer down answer) := by
  simp [OperandCheck.Statement, Instr.wellFormed, Instr.carriedTransaction, Instr.carriedAnswer]

theorem OperandCheck.eventWordWriteAnswer (down : Label) (answer : Answer) : OperandCheck.Statement (.eventWordWriteAnswer down answer) := by
  simp [OperandCheck.Statement, Instr.wellFormed, Instr.carriedTransaction, Instr.carriedAnswer]

theorem OperandCheck.reportTimerExpiry : OperandCheck.Statement (.reportTimerExpiry) := by
  simp [OperandCheck.Statement, Instr.wellFormed, Instr.carriedTransaction, Instr.carriedAnswer]

theorem OperandCheck.publicationStart : OperandCheck.Statement (.publicationStart) := by
  simp [OperandCheck.Statement, Instr.wellFormed, Instr.carriedTransaction, Instr.carriedAnswer]

theorem OperandCheck.publicationWriteAnswer (down : Label) (answer : Answer) : OperandCheck.Statement (.publicationWriteAnswer down answer) := by
  simp [OperandCheck.Statement, Instr.wellFormed, Instr.carriedTransaction, Instr.carriedAnswer]

theorem OperandCheck.heldReadRelease : OperandCheck.Statement (.heldReadRelease) := by
  simp [OperandCheck.Statement, Instr.wellFormed, Instr.carriedTransaction, Instr.carriedAnswer]

theorem OperandCheck.millisecondTick : OperandCheck.Statement (.millisecondTick) := by
  simp [OperandCheck.Statement, Instr.wellFormed, Instr.carriedTransaction, Instr.carriedAnswer]

end Sys2Proof.Laws
end

