-- ==== Sys2Proof/Laws/Pointer.lean ====
section
/-! SUPPORT. The Pointer Writer's list keeps at most one entry per target (R16): a posting keeps that, and so does every operation of the
Landing Unit, Resequencer, Delivery Unit, Submission X -/

namespace Sys2Proof.Machine

set_option linter.unusedSimpArgs false

/-- A posting keeps the targets of the list distinct (R16). -/
theorem postTo_distinct (l : List PointerEntry) (t : Target) (v : List Word) (h : (l.map PointerEntry.target).Pairwise (· ≠ ·)) :
    ((postTo l t v).map PointerEntry.target).Pairwise (· ≠ ·) := by
  unfold postTo
  split
  · have e : (PointerEntry.target ∘ fun e => if e.target = t then { e with value := v } else e) = PointerEntry.target := by
      funext e; simp only [Function.comp]; split <;> rfl
    rw [List.map_map, e]
    exact h
  · rw [List.map_append, List.pairwise_append]
    refine ⟨h.sublist (List.filter_sublist.map _), by simp, ?_⟩
    simp only [List.mem_map, List.mem_filter, List.map_cons, List.map_nil, List.mem_singleton]
    rintro a ⟨x, ⟨_, hx⟩, rfl⟩ b rfl
    simpa using hx

/-- An operation that leaves the list keeps the condition. -/
theorem State.pointerOk_congr {s t : State} (e : t.path.pointer = s.path.pointer) (h : s.pointerOk) : t.pointerOk := by
  unfold State.pointerOk; rw [e]; exact h

/-- The list without its head keeps the condition. -/
theorem State.pointerOk_tail (s : State) (e : PointerEntry) (rest : List PointerEntry) (l : s.path.pointer = e :: rest)
    (h : s.pointerOk) : (s.setPointer rest).pointerOk := by
  unfold State.pointerOk at h
  rw [l] at h
  exact (List.pairwise_cons.1 h).2

/-- An operation made for each item of a list keeps what it keeps for one. -/
theorem State.pointerOk_foldl {α : Type} (f : State → α → State) (hf : ∀ t x, t.pointerOk → (f t x).pointerOk) (l : List α)
    (s : State) (h : s.pointerOk) : (l.foldl f s).pointerOk := by
  induction l generalizing s with
  | nil => exact h
  | cons x xs ih => exact ih _ (hf s x h)

/-- An operation made for each pair keeps what it keeps for one. -/
theorem State.pointerOk_forPairs (s : State) (f : State → Pair → State) (hf : ∀ t p, t.pointerOk → (f t p).pointerOk)
    (h : s.pointerOk) : (s.forPairs f).pointerOk := State.pointerOk_foldl f hf allPairs s h

/-! ## Record updates beside the list -/

theorem State.pointerOk_pairs (s : State) (x : Vector PairRec 8) : State.pointerOk { s with pairs := x } = s.pointerOk := rfl
theorem State.pointerOk_reseq (s : State) (x : Reseq) : State.pointerOk { s with reseq := x } = s.pointerOk := rfl
theorem State.pointerOk_deliv (s : State) (x : Delivery) : State.pointerOk { s with deliv := x } = s.pointerOk := rfl
theorem State.pointerOk_rep (s : State) (x : Report) : State.pointerOk { s with rep := x } = s.pointerOk := rfl

theorem State.pointerOk_sup (s : State) (x : Supervisor) : State.pointerOk { s with sup := x } = s.pointerOk := rfl
theorem State.pointerOk_surge (s : State) (x : Surge) : State.pointerOk { s with surge := x } = s.pointerOk := rfl
theorem State.pointerOk_prof (s : State) (x : ProfileUnit) : State.pointerOk { s with prof := x } = s.pointerOk := rfl
theorem State.pointerOk_clock (s : State) (x : Clock) : State.pointerOk { s with clock := x } = s.pointerOk := rfl
theorem State.pointerOk_pins (s : State) (x : Pins) : State.pointerOk { s with pins := x } = s.pointerOk := rfl

/-! ## One lemma for each operation -/

@[simp] theorem State.pointerOk_modPair (s : State) (p : Pair) (f : PairRec → PairRec) (h : s.pointerOk) :
    (s.modPair p f).pointerOk := State.pointerOk_congr rfl h

@[simp] theorem State.pointerOk_bump (s : State) (c : GCounter) (n : Nat) (h : s.pointerOk) : (s.bump c n).pointerOk :=
  State.pointerOk_congr rfl h

@[simp] theorem State.pointerOk_bumpPair (s : State) (p : Pair) (c : PCounter) (n : Nat) (h : s.pointerOk) :
    (s.bumpPair p c n).pointerOk := State.pointerOk_congr rfl h

@[simp] theorem State.pointerOk_respond (s : State) (r : Response) (h : s.pointerOk) : (s.respond r).pointerOk :=
  State.pointerOk_congr rfl h

@[simp] theorem State.pointerOk_setUp (s : State) (l : List UpTx) (h : s.pointerOk) : (s.setUp l).pointerOk :=
  State.pointerOk_congr rfl h

@[simp] theorem State.pointerOk_setStage (s : State) (l : Label) (g : UpStage) (h : s.pointerOk) : (s.setStage l g).pointerOk :=
  State.pointerOk_congr rfl h

@[simp] theorem State.pointerOk_closeUp (s : State) (r : Response) (h : s.pointerOk) : (s.closeUp r).pointerOk :=
  State.pointerOk_congr rfl h

@[simp] theorem State.pointerOk_setDown (s : State) (d : Label) (t : Option DownTx) (h : s.pointerOk) :
    (s.setDown d t).pointerOk := State.pointerOk_congr rfl h

@[simp] theorem State.pointerOk_post (s : State) (t : Target) (v : List Word) (h : s.pointerOk) : (s.post t v).pointerOk := postTo_distinct _ _ _ h

@[simp] theorem State.pointerOk_postWord (s : State) (o : Nat) (w : Word) (h : s.pointerOk) : (s.postWord o w).pointerOk := by
  unfold State.postWord; (repeat' split) <;> simp [h]

@[simp] theorem State.pointerOk_postCount (s : State) (o : Nat) (c : Half) (h : s.pointerOk) : (s.postCount o c).pointerOk := by
  simp [State.postCount, h]

@[simp] theorem State.pointerOk_refreshAttn (s : State) (h : s.pointerOk) : s.refreshAttn.pointerOk := State.pointerOk_congr rfl h

@[simp] theorem State.pointerOk_setEvent (s : State) (e : Event) (h : s.pointerOk) : (s.setEvent e).pointerOk :=
  State.pointerOk_congr rfl h

@[simp] theorem State.pointerOk_postEventWord (s : State) (h : s.pointerOk) : s.postEventWord.pointerOk := by
  unfold State.postEventWord; try simp only []
  (repeat' split) <;> simp +contextual (maxDischargeDepth := 12) [h, ↓State.pointerOk_pairs, ↓State.pointerOk_reseq, ↓State.pointerOk_deliv,
    ↓State.pointerOk_rep, State.pointerOk_foldl, State.pointerOk_forPairs]

@[simp] theorem State.pointerOk_raise (s : State) (e : Event) (h : s.pointerOk) : (s.raise e).pointerOk := by
  simp [State.raise, h]

@[simp] theorem State.pointerOk_setQueue (s : State) (q : List FrameRec) (h : s.pointerOk) : (s.setQueue q).pointerOk :=
  State.pointerOk_congr rfl h

@[simp] theorem State.pointerOk_setWindow (s : State) (w : List Pos) (h : s.pointerOk) : (s.setWindow w).pointerOk :=
  State.pointerOk_congr rfl h

@[simp] theorem State.pointerOk_aim (s : State) (h : s.pointerOk) : s.aim.pointerOk := State.pointerOk_congr rfl h

@[simp] theorem State.pointerOk_modSubm (s : State) (f : Submission → Submission) (h : s.pointerOk) : (s.modSubm f).pointerOk :=
  State.pointerOk_congr rfl h

@[simp] theorem State.pointerOk_modDist (s : State) (f : Dist → Dist) (h : s.pointerOk) : (s.modDist f).pointerOk :=
  State.pointerOk_congr rfl h

@[simp] theorem State.pointerOk_modRep (s : State) (f : Report → Report) (h : s.pointerOk) : (s.modRep f).pointerOk :=
  State.pointerOk_congr rfl h

@[simp] theorem State.pointerOk_setLock (s : State) (l : Option Lock) (h : s.pointerOk) : (s.setLock l).pointerOk :=
  State.pointerOk_congr rfl h

@[simp] theorem State.pointerOk_clearOnRead (s : State) (v : Half) (h : s.pointerOk) : (s.clearOnRead v).pointerOk := by
  unfold State.clearOnRead; simp only []
  split
  · exact h
  · exact State.pointerOk_bump _ _ _ (State.pointerOk_postEventWord _ (State.pointerOk_congr rfl h))

@[simp] theorem State.pointerOk_releaseAdvance (s : State) (p : Pair) (h : s.pointerOk) : (s.releaseAdvance p).pointerOk := by
  unfold State.releaseAdvance; (repeat' split) <;> simp [h]

@[simp] theorem State.pointerOk_drainedNotice (s : State) (p : Pair) (b : Bool) (h : s.pointerOk) :
    (s.drainedNotice p b).pointerOk := by
  unfold State.drainedNotice; (repeat' split) <;> simp [h]

@[simp] theorem State.pointerOk_vacate (s : State) (p : Pair) (c : Nat) (h : s.pointerOk) : (s.vacate p c).pointerOk := by
  simp [State.vacate, h]

@[simp] theorem State.pointerOk_cellFree (s : State) (p : Pair) (c : Nat) (h : s.pointerOk) : (s.cellFree p c).pointerOk := by
  simp [State.cellFree, h]

@[simp] theorem State.pointerOk_freeUse (s : State) (p : Pair) (c : Nat) (u : Half) (h : s.pointerOk) :
    (s.freeUse p c u).pointerOk := by
  unfold State.freeUse; (repeat' split) <;> simp [h]

@[simp] theorem State.pointerOk_passCell (s : State) (p : Pair) (c : Nat) (u : Half) (h : s.pointerOk) :
    (s.passCell p c u).pointerOk := by
  unfold State.passCell; (repeat' split) <;> simp [h]

@[simp] theorem State.pointerOk_forgetLearned (s : State) (p : Pair) (h : s.pointerOk) : (s.forgetLearned p).pointerOk := by
  simp [State.forgetLearned, h]

@[simp] theorem State.pointerOk_endLanding (s : State) (p : Pair) (h : s.pointerOk) : (s.endLanding p).pointerOk := by
  simp [State.endLanding, h]

@[simp] theorem State.pointerOk_landingOut (s : State) (p : Pair) (h : s.pointerOk) : (s.landingOut p).pointerOk := by
  unfold State.landingOut; (repeat' split) <;> simp (maxDischargeDepth := 9) [h]

@[simp] theorem State.pointerOk_landingStart (s : State) (p : Pair) (h : s.pointerOk) : (s.landingStart p).pointerOk := by
  unfold State.landingStart; simp only []; (repeat' split) <;> simp [h]

@[simp] theorem State.pointerOk_buildRing (s : State) (p : Pair) (n : Nat) (h : s.pointerOk) : (s.buildRing p n).pointerOk := by
  simp [State.buildRing, h]

@[simp] theorem State.pointerOk_postRecord (s : State) (f : FrameRec) (h : s.pointerOk) : (s.postRecord f).pointerOk := by
  unfold State.postRecord; (repeat' split) <;> simp [h]

@[simp] theorem State.pointerOk_postProducer (s : State) (h : s.pointerOk) : s.postProducer.pointerOk := by
  simp [State.postProducer, h]

@[simp] theorem State.pointerOk_postDeliveryCounts (s : State) (h : s.pointerOk) : s.postDeliveryCounts.pointerOk := by
  simp [State.postDeliveryCounts, h]

@[simp] theorem State.pointerOk_postDeliveryRing (s : State) (h : s.pointerOk) : s.postDeliveryRing.pointerOk := by
  simp +contextual (maxDischargeDepth := 9) [State.postDeliveryRing, State.pointerOk_foldl, State.pointerOk_forPairs, h]

@[simp] theorem State.pointerOk_takeFrame (s : State) (l : List FragEntry) (h : s.pointerOk) : (s.takeFrame l).pointerOk := by
  refine State.pointerOk_foldl _ (fun t e g => State.pointerOk_passCell t _ _ _ g) _ _ ?_
  refine State.pointerOk_bump _ _ _ (State.pointerOk_raise _ _ (State.pointerOk_postProducer _ (State.pointerOk_postRecord _ _ ?_)))
  exact State.pointerOk_congr rfl h

@[simp] theorem State.pointerOk_freeFragments (s : State) (l : List FragEntry) (h : s.pointerOk) :
    (s.freeFragments l).pointerOk := by
  refine State.pointerOk_foldl _ (fun t e g => ?_) _ _ h
  split
  · exact g
  · exact State.pointerOk_freeUse t _ _ _ g

@[simp] theorem State.pointerOk_leaveQueue (s : State) (h : s.pointerOk) : s.leaveQueue.pointerOk := by
  unfold State.leaveQueue; try simp only []
  (repeat' split) <;> simp +contextual (maxDischargeDepth := 12) [h, ↓State.pointerOk_pairs, ↓State.pointerOk_reseq, ↓State.pointerOk_deliv,
    ↓State.pointerOk_rep, State.pointerOk_foldl, State.pointerOk_forPairs]

@[simp] theorem State.pointerOk_retire (s : State) (a : Nat) (h : s.pointerOk) : (s.retire a).pointerOk := by
  refine State.pointerOk_bump _ _ _ (State.pointerOk_foldl _ (fun t f g => ?_) _ _ (State.pointerOk_setQueue _ _ h))
  split
  · exact State.pointerOk_freeFragments t _ g
  · exact g

@[simp] theorem State.pointerOk_takeConsumer (s : State) (v : Half) (h : s.pointerOk) : (s.takeConsumer v).pointerOk := by
  unfold State.takeConsumer; simp only []
  (repeat' split)
  · exact State.pointerOk_raise _ _ (State.pointerOk_bump _ _ _ h)
  · exact h
  · exact State.pointerOk_leaveQueue _ (State.pointerOk_congr rfl (State.pointerOk_retire s _ h))

@[simp] theorem State.pointerOk_deliveryVoid (s : State) (p : Pair) (c : Nat) (u : Half) (h : s.pointerOk) :
    (s.deliveryVoid p c u).pointerOk := by
  unfold State.deliveryVoid; (repeat' split) <;> simp (maxDischargeDepth := 9) [h]

@[simp] theorem State.pointerOk_modFrame (s : State) (c : Half) (g : FrameRec → FrameRec) (h : s.pointerOk) :
    (s.modFrame c g).pointerOk := by
  simp [State.modFrame, h]

@[simp] theorem State.pointerOk_dropPin (s : State) (c : Half) (h : s.pointerOk) : (s.dropPin c).pointerOk := by
  unfold State.dropPin; simp only []; (repeat' split) <;> simp (maxDischargeDepth := 9) [h]

@[simp] theorem State.pointerOk_answerRedirect (s : State) (t : UpTx) (r : Redirect) (h : s.pointerOk) :
    (s.answerRedirect t r).pointerOk := by
  unfold State.answerRedirect; (repeat' split) <;> simp (maxDischargeDepth := 9) [h]

@[simp] theorem State.pointerOk_pieceEnded (s : State) (l : Label) (b : Bool) (w : Option (List Word)) (h : s.pointerOk) :
    (s.pieceEnded l b w).pointerOk := by
  unfold State.pieceEnded; simp only []; (repeat' split) <;> simp (maxDischargeDepth := 9) [h]

@[simp] theorem State.pointerOk_moveHead (s : State) (n : Nat) (h : s.pointerOk) : (s.moveHead n).pointerOk :=
  State.pointerOk_forPairs _ _ (fun t p g => State.pointerOk_modPair t p _ g) (State.pointerOk_congr rfl h)

@[simp] theorem State.pointerOk_passLost (s : State) (n : Nat) (h : s.pointerOk) : (s.passLost n).pointerOk :=
  State.pointerOk_moveHead _ _ (State.pointerOk_congr rfl (State.pointerOk_bump s .lostSequence n h))

@[simp] theorem State.pointerOk_passOrphan (s : State) (r : Landed) (h : s.pointerOk) : (s.passOrphan r).pointerOk := by
  unfold State.passOrphan; (repeat' split) <;> simp (maxDischargeDepth := 9) [h]

@[simp] theorem State.pointerOk_discardHead (s : State) (r : Landed) (c : GCounter) (h : s.pointerOk) :
    (s.discardHead r c).pointerOk :=
  State.pointerOk_moveHead _ _
    (State.pointerOk_congr rfl (State.pointerOk_bump _ c 1 (State.pointerOk_freeUse s r.pair r.cell r.use h)))

@[simp] theorem State.pointerOk_handOff (s : State) (n : Nat) (h : s.pointerOk) : (s.handOff n).pointerOk :=
  State.pointerOk_moveHead _ _
    (State.pointerOk_congr rfl
      (State.pointerOk_bump _ .framesAssembled 1 (State.pointerOk_takeFrame s (fragmentsOf (s.positions.take n)) h)))

@[simp] theorem State.pointerOk_block (s : State) (h : s.pointerOk) : s.block.pointerOk := by
  unfold State.block; try simp only []
  (repeat' split) <;> simp +contextual (maxDischargeDepth := 12) [h, ↓State.pointerOk_pairs, ↓State.pointerOk_reseq, ↓State.pointerOk_deliv,
    ↓State.pointerOk_rep, State.pointerOk_foldl, State.pointerOk_forPairs]

@[simp] theorem State.pointerOk_headRun (n : Nat) (s : State) (h : s.pointerOk) : (State.headRun n s).pointerOk := by
  induction n generalizing s with
  | zero => exact h
  | succ n ih => unfold State.headRun; (repeat' split) <;> simp (maxDischargeDepth := 12) [h, ih]

@[simp] theorem State.pointerOk_headProcess (s : State) (h : s.pointerOk) : s.headProcess.pointerOk :=
  State.pointerOk_headRun _ _ (State.pointerOk_congr rfl h)

@[simp] theorem State.pointerOk_settle (s : State) (h : s.pointerOk) : s.settle.pointerOk := by
  simp [State.settle, h]

@[simp] theorem State.pointerOk_declare (s : State) (n : Nat) (h : s.pointerOk) : (s.declare n).pointerOk := by
  simp [State.declare, h]

@[simp] theorem State.pointerOk_close (s : State) (h : s.pointerOk) : s.close.pointerOk := by
  unfold State.close; simp only []; (repeat' split) <;> simp (maxDischargeDepth := 9) [h]

@[simp] theorem State.pointerOk_closeOnDeparture (s : State) (p : Pair) (h : s.pointerOk) : (s.closeOnDeparture p).pointerOk := by
  unfold State.closeOnDeparture; simp only []; (repeat' split) <;> simp (maxDischargeDepth := 9) [h]

@[simp] theorem State.pointerOk_skewExpire (s : State) (k : Skew) (h : s.pointerOk) : (s.skewExpire k).pointerOk := by
  unfold State.skewExpire; (repeat' split) <;> simp (maxDischargeDepth := 9) [h]

@[simp] theorem State.pointerOk_clearPosition (s : State) (x : Pos) (h : s.pointerOk) : (s.clearPosition x).pointerOk := by
  unfold State.clearPosition; (repeat' split) <;> simp [h]

@[simp] theorem State.pointerOk_windowClear (s : State) (h : s.pointerOk) : s.windowClear.pointerOk :=
  State.pointerOk_forPairs _ _ (fun t p g => State.pointerOk_modPair t p _ g)
    (State.pointerOk_congr rfl (State.pointerOk_foldl State.clearPosition (fun t x g => State.pointerOk_clearPosition t x g) _ s h))

@[simp] theorem State.pointerOk_bondClear (s : State) (h : s.pointerOk) : s.bondClear.pointerOk := by
  unfold State.bondClear; try simp only []
  (repeat' split) <;> simp +contextual (maxDischargeDepth := 12) [h, ↓State.pointerOk_pairs, ↓State.pointerOk_reseq, ↓State.pointerOk_deliv,
    ↓State.pointerOk_rep, State.pointerOk_foldl, State.pointerOk_forPairs]

@[simp] theorem State.pointerOk_receiveRestart (s : State) (g : Byte) (h : s.pointerOk) : (s.receiveRestart g).pointerOk := by
  unfold State.receiveRestart; try simp only []
  (repeat' split) <;> simp +contextual (maxDischargeDepth := 12) [h, ↓State.pointerOk_pairs, ↓State.pointerOk_reseq, ↓State.pointerOk_deliv,
    ↓State.pointerOk_rep, State.pointerOk_foldl, State.pointerOk_forPairs]

@[simp] theorem State.pointerOk_windowVoid (s : State) (p : Pair) (c : Nat) (u : Half) (h : s.pointerOk) :
    (s.windowVoid p c u).pointerOk := by
  unfold State.windowVoid; (repeat' split) <;> simp [h]

@[simp] theorem State.pointerOk_dropData (s : State) (a : DataRecord) (c : PCounter) (h : s.pointerOk) :
    (s.dropData a c).pointerOk := by
  simp [State.dropData, h]

@[simp] theorem State.pointerOk_landAt (s : State) (a : DataRecord) (d : Nat) (h : s.pointerOk) : (s.landAt a d).pointerOk := by
  simp [State.landAt, h]

@[simp] theorem State.pointerOk_enterWindow (s : State) (a : DataRecord) (d : Nat) (h : s.pointerOk) :
    (s.enterWindow a d).pointerOk := by
  unfold State.enterWindow; simp only []; (repeat' split) <;> simp (maxDischargeDepth := 9) [h]

@[simp] theorem State.pointerOk_forcedWalk (n m : Nat) (s : State) (h : s.pointerOk) : (State.forcedWalk n m s).pointerOk := by
  induction n generalizing m s with
  | zero => exact h
  | succ n ih =>
    cases m with
    | zero => exact h
    | succ m => unfold State.forcedWalk; simp only []; (repeat' split) <;> simp (maxDischargeDepth := 12) [h, ih]

@[simp] theorem State.pointerOk_forcedAdvance (s : State) (a : DataRecord) (d : Nat) (h : s.pointerOk) :
    (s.forcedAdvance a d).pointerOk := by
  unfold State.forcedAdvance; (repeat' split) <;> simp (maxDischargeDepth := 9) [h]

@[simp] theorem State.pointerOk_placeData (s : State) (a : DataRecord) (h : s.pointerOk) : (s.placeData a).pointerOk := by
  unfold State.placeData; simp only []; (repeat' split) <;> simp [h]

@[simp] theorem State.pointerOk_admitData (s : State) (a : DataRecord) (h : s.pointerOk) : (s.admitData a).pointerOk := by
  unfold State.admitData
  (repeat' split)
  · exact State.pointerOk_dropData s _ _ h
  · exact State.pointerOk_placeData _ _ (State.pointerOk_receiveRestart s _ h)
  · exact State.pointerOk_placeData s _ h
  · exact State.pointerOk_dropData s _ _ h
  · exact State.pointerOk_placeData _ _ (State.pointerOk_congr rfl h)

@[simp] theorem State.pointerOk_recount (s : State) (h : s.pointerOk) : s.recount.pointerOk := by
  simp [State.recount, h]

@[simp] theorem State.pointerOk_complete (s : State) (a : Nat) (st : Status) (f : Nat) (v : Half) (h : s.pointerOk) :
    (s.complete a st f v).pointerOk := by
  unfold State.complete; (repeat' split) <;> simp (maxDischargeDepth := 9) [h]

@[simp] theorem State.pointerOk_completeEntry (s : State) (e : TxEntry) (st : Status) (h : s.pointerOk) :
    (s.completeEntry e st).pointerOk := by
  unfold State.completeEntry; (repeat' split) <;> simp (maxDischargeDepth := 9) [h]

@[simp] theorem State.pointerOk_takeProducer (s : State) (v : Half) (h : s.pointerOk) : (s.takeProducer v).pointerOk := by
  unfold State.takeProducer; (repeat' split) <;> simp [h]

@[simp] theorem State.pointerOk_offerFetch (s : State) (h : s.pointerOk) : s.offerFetch.pointerOk := by
  unfold State.offerFetch; (repeat' split) <;> simp (maxDischargeDepth := 9) [h]

@[simp] theorem State.pointerOk_fetched (s : State) (f : Fetch) (r : SubmissionRecord) (h : s.pointerOk) :
    (s.fetched f r).pointerOk := by
  unfold State.fetched; (repeat' split) <;> simp (maxDischargeDepth := 9) [h]

@[simp] theorem State.pointerOk_fetchFailed (s : State) (f : Fetch) (h : s.pointerOk) : (s.fetchFailed f).pointerOk := by
  unfold State.fetchFailed; (repeat' split) <;> simp (maxDischargeDepth := 9) [h]

@[simp] theorem State.pointerOk_modEntry (s : State) (n : Half) (f : TxEntry → TxEntry) (h : s.pointerOk) :
    (s.modEntry n f).pointerOk := by
  simp [State.modEntry, h]

@[simp] theorem State.pointerOk_expireAge (s : State) (n : Half) (h : s.pointerOk) : (s.expireAge n).pointerOk := by
  unfold State.expireAge; (repeat' split) <;> simp [h]

@[simp] theorem State.pointerOk_takeRing (s : State) (h : s.pointerOk) : s.takeRing.pointerOk := by
  simp [State.takeRing, h]

@[simp] theorem State.pointerOk_ringChanged (s : State) (h : s.pointerOk) : s.ringChanged.pointerOk := by
  unfold State.ringChanged; (repeat' split) <;> simp [h]

@[simp] theorem State.pointerOk_abortWaiting (s : State) (h : s.pointerOk) : s.abortWaiting.pointerOk := by
  simp +contextual (maxDischargeDepth := 9) [State.abortWaiting, State.pointerOk_foldl, State.pointerOk_forPairs, h]

@[simp] theorem State.pointerOk_postAlloc (s : State) (p : Pair) (h : s.pointerOk) : (s.postAlloc p).pointerOk := by
  simp [State.postAlloc, h]

@[simp] theorem State.pointerOk_postTxCounts (s : State) (p : Pair) (h : s.pointerOk) : (s.postTxCounts p).pointerOk := by
  simp [State.postTxCounts, h]

@[simp] theorem State.pointerOk_reallocate (s : State) (p : Pair) (a : Alloc) (h : s.pointerOk) : (s.reallocate p a).pointerOk := by
  unfold State.reallocate; (repeat' split) <;> simp [h]

@[simp] theorem State.pointerOk_installTarget (s : State) (t : AllocTarget) (h : s.pointerOk) : (s.installTarget t).pointerOk := by
  simp +contextual (maxDischargeDepth := 9) [State.installTarget, State.pointerOk_foldl, State.pointerOk_forPairs, h]

@[simp] theorem State.pointerOk_postTransmitWords (s : State) (h : s.pointerOk) : s.postTransmitWords.pointerOk := by
  simp +contextual (maxDischargeDepth := 9) [State.postTransmitWords, State.pointerOk_foldl, State.pointerOk_forPairs, h]

@[simp] theorem State.pointerOk_takeTxConsumer (s : State) (p : Pair) (v : Half) (h : s.pointerOk) :
    (s.takeTxConsumer p v).pointerOk := by
  unfold State.takeTxConsumer; (repeat' split) <;> simp [h]

@[simp] theorem State.pointerOk_transmitStart (s : State) (p : Pair) (h : s.pointerOk) : (s.transmitStart p).pointerOk := by
  unfold State.transmitStart; (repeat' split) <;> simp (maxDischargeDepth := 9) [h]

@[simp] theorem State.pointerOk_giveUpCell (s : State) (w : Work) (h : s.pointerOk) : (s.giveUpCell w).pointerOk := by
  unfold State.giveUpCell; (repeat' split) <;> simp [h]

@[simp] theorem State.pointerOk_endAbandoned (s : State) (w : Work) (h : s.pointerOk) : (s.endAbandoned w).pointerOk := by
  unfold State.endAbandoned; (repeat' split) <;> simp (maxDischargeDepth := 9) [h]

@[simp] theorem State.pointerOk_abandonWork (s : State) (w : Work) (h : s.pointerOk) : (s.abandonWork w).pointerOk := by
  unfold State.abandonWork; (repeat' split) <;> simp [h]

@[simp] theorem State.pointerOk_recheckWork (s : State) (h : s.pointerOk) : s.recheckWork.pointerOk := by
  unfold State.recheckWork; (repeat' split) <;> simp [h]

@[simp] theorem State.pointerOk_abandonData (s : State) (h : s.pointerOk) : s.abandonData.pointerOk := by
  unfold State.abandonData; (repeat' split) <;> simp [h]

@[simp] theorem State.pointerOk_closeFrame (s : State) (n : Half) (st : Status) (h : s.pointerOk) :
    (s.closeFrame n st).pointerOk := by
  unfold State.closeFrame; simp only []; (repeat' split) <;> simp [h]

@[simp] theorem State.pointerOk_releaseFrame (s : State) (st : Status) (h : s.pointerOk) : (s.releaseFrame st).pointerOk := by
  unfold State.releaseFrame; (repeat' split) <;> simp (maxDischargeDepth := 9) [h]

@[simp] theorem State.pointerOk_copyFault (s : State) (w : Work) (h : s.pointerOk) : (s.copyFault w).pointerOk := by
  unfold State.copyFault; (repeat' split) <;> simp (maxDischargeDepth := 9) [h]

@[simp] theorem State.pointerOk_copierFailed (s : State) (w : Work) (h : s.pointerOk) : (s.copierFailed w).pointerOk := by
  unfold State.copierFailed; (repeat' split) <;> simp [h]

@[simp] theorem State.pointerOk_round (s : State) (h : s.pointerOk) : s.round.pointerOk :=
  State.pointerOk_forPairs _ _ (fun t p g => by
    split
    · exact State.pointerOk_modPair t p _ g
    · exact g) h

@[simp] theorem State.pointerOk_replenish (c :Cut) (n : Nat) (s : State) (h : s.pointerOk) : (State.replenish c n s).pointerOk := by
  induction n generalizing s with
  | zero => exact h
  | succ n ih => unfold State.replenish; (repeat' split) <;> simp (maxDischargeDepth := 12) [h, ih]

@[simp] theorem State.pointerOk_takeWork (s : State) (w : Work) (h : s.pointerOk) : (s.takeWork w).pointerOk := by
  simp [State.takeWork, h]

@[simp] theorem State.pointerOk_takeFragment (s : State) (b : Nat) (p : Pair) (f : Frag) (h : s.pointerOk) :
    (s.takeFragment b p f).pointerOk := by
  unfold State.takeFragment; (repeat' split) <;> simp (maxDischargeDepth := 9) [h]

@[simp] theorem State.pointerOk_placeNew (s : State) (c : Cut) (h : s.pointerOk) : (s.placeNew c).pointerOk := by
  unfold State.placeNew; simp only []; (repeat' split) <;> simp (maxDischargeDepth := 9) [h]

@[simp] theorem State.pointerOk_placeOld (s : State) (c : Cut) (h : s.pointerOk) : (s.placeOld c).pointerOk := by
  unfold State.placeOld; simp only []; (repeat' split) <;> simp (maxDischargeDepth := 9) [h]

@[simp] theorem State.pointerOk_placeControl (s : State) (k : WorkKind) (p : Pair) (l : List Word) (h : s.pointerOk) :
    (s.placeControl k p l).pointerOk := by
  simp [State.placeControl, h]

@[simp] theorem State.pointerOk_placeStatus (s : State) (p : Pair) (h : s.pointerOk) : (s.placeStatus p).pointerOk := by
  simp [State.placeStatus, h]

@[simp] theorem State.pointerOk_placeProve (s : State) (p : Pair) (h : s.pointerOk) : (s.placeProve p).pointerOk := by
  simp [State.placeProve, h]

@[simp] theorem State.pointerOk_copierReadOk (s : State) (w : Work) (l : List Word) (h : s.pointerOk) :
    (s.copierReadOk w l).pointerOk := by
  unfold State.copierReadOk; (repeat' split) <;> simp [h]

@[simp] theorem State.pointerOk_publishCell (s : State) (w : Work) (h : s.pointerOk) : (s.publishCell w).pointerOk := by
  unfold State.publishCell; (repeat' split) <;> simp (maxDischargeDepth := 9) [h]

@[simp] theorem State.pointerOk_publishData (s : State) (w : Work) (f : Frag) (h : s.pointerOk) : (s.publishData w f).pointerOk := by
  unfold State.publishData; simp only []; (repeat' split) <;> simp (maxDischargeDepth := 9) [h]

@[simp] theorem State.pointerOk_publishProve (s : State) (w : Work) (h : s.pointerOk) : (s.publishProve w).pointerOk := by
  simp [State.publishProve, h]

@[simp] theorem State.pointerOk_publish (s : State) (w : Work) (h : s.pointerOk) : (s.publish w).pointerOk := by
  unfold State.publish; (repeat' split) <;> simp [h]

@[simp] theorem State.pointerOk_copierWriteOk (s : State) (w : Work) (n : Nat) (h : s.pointerOk) :
    (s.copierWriteOk w n).pointerOk := by
  unfold State.copierWriteOk; simp only []; (repeat' split) <;> simp [h]

@[simp] theorem State.pointerOk_setGeneration (s : State) (b : Bool) (g : Byte) (h : s.pointerOk) :
    (s.setGeneration b g).pointerOk := by
  unfold State.setGeneration; (repeat' split) <;> simp [h]

@[simp] theorem State.pointerOk_transmitRestart (s : State) (h : s.pointerOk) : s.transmitRestart.pointerOk := by
  simp +contextual (maxDischargeDepth := 9) [State.transmitRestart, State.pointerOk_foldl, State.pointerOk_forPairs, h]

@[simp] theorem State.pointerOk_selectFrame (s : State) (e : TxEntry) (h : s.pointerOk) : (s.selectFrame e).pointerOk := by
  simp [State.selectFrame, h]

@[simp] theorem State.pointerOk_capCredits (s : State) (h : s.pointerOk) : s.capCredits.pointerOk := by
  simp +contextual (maxDischargeDepth := 9) [State.capCredits, State.pointerOk_foldl, State.pointerOk_forPairs, h]

@[simp] theorem State.pointerOk_postPublication (s : State) (i : Nat) (h : s.pointerOk) : (s.postPublication i).pointerOk := by
  simp [State.postPublication, h]

@[simp] theorem State.pointerOk_startPublication (s : State) (h : s.pointerOk) : s.startPublication.pointerOk := by
  simp [State.startPublication, h]

@[simp] theorem State.pointerOk_becomeDue (s : State) (h : s.pointerOk) : s.becomeDue.pointerOk := by
  unfold State.becomeDue; simp only []; (repeat' split) <;> simp [h]

@[simp] theorem State.pointerOk_publicationCause (s : State) (h : s.pointerOk) : s.publicationCause.pointerOk := by
  unfold State.publicationCause; (repeat' split) <;> simp [h]

@[simp] theorem State.pointerOk_releaseHeld (s : State) (h : s.pointerOk) : s.releaseHeld.pointerOk := by
  simp [State.releaseHeld, h]

@[simp] theorem State.pointerOk_afterPublication (s : State) (h : s.pointerOk) : s.afterPublication.pointerOk := by
  unfold State.afterPublication; (repeat' split) <;> simp [h]

@[simp] theorem State.pointerOk_endPublication (s : State) (h : s.pointerOk) : s.endPublication.pointerOk := by
  unfold State.endPublication; simp only []; (repeat' split) <;> simp (maxDischargeDepth := 9) [h]

@[simp] theorem State.pointerOk_publicationAnswered (s : State) (b : Bool) (h : s.pointerOk) :
    (s.publicationAnswered b).pointerOk := by
  unfold State.publicationAnswered; (repeat' split) <;> simp [h]

@[simp] theorem State.pointerOk_oneShot (s : State) (h : s.pointerOk) : s.oneShot.pointerOk := by
  unfold State.oneShot; (repeat' split) <;> simp [h]

@[simp] theorem State.pointerOk_reportModeChange (s : State) (n : Nat) (h : s.pointerOk) : (s.reportModeChange n).pointerOk := by
  unfold State.reportModeChange; simp only []; (repeat' split) <;> simp (maxDischargeDepth := 9) [h]

@[simp] theorem State.pointerOk_changeState (s : State) (p : Pair) (new : PairState) (reason : Reason) (h : s.pointerOk) :
    (s.changeState p new reason).pointerOk := by
  unfold State.changeState; simp only []; (repeat' split) <;> simp (maxDischargeDepth := 9) [h]

@[simp] theorem State.pointerOk_enterDown (s : State) (p : Pair) (cause : Reason) (failed : Bool) (h : s.pointerOk) :
    (s.enterDown p cause failed).pointerOk := by
  unfold State.enterDown; simp only []; (repeat' split) <;> simp (maxDischargeDepth := 9) [h]

@[simp] theorem State.pointerOk_enterProving (s : State) (p : Pair) (h : s.pointerOk) : (s.enterProving p).pointerOk := by
  simp [State.enterProving, h]

@[simp] theorem State.pointerOk_enterActive (s : State) (p : Pair) (h : s.pointerOk) : (s.enterActive p).pointerOk := by
  simp [State.enterActive, h]

@[simp] theorem State.pointerOk_failProving (s : State) (p : Pair) (cause : Reason) (h : s.pointerOk) :
    (s.failProving p cause).pointerOk := by
  simp [State.failProving, h]

@[simp] theorem State.pointerOk_lose (s : State) (p : Pair) (h : s.pointerOk) : (s.lose p).pointerOk := by
  unfold State.lose; simp only []; (repeat' split) <;> simp (maxDischargeDepth := 9) [h]

@[simp] theorem State.pointerOk_hold (s : State) (p : Pair) (h : s.pointerOk) : (s.hold p).pointerOk := by
  simp [State.hold, h]

@[simp] theorem State.pointerOk_disable (s : State) (p : Pair) (h : s.pointerOk) : (s.disable p).pointerOk := by
  unfold State.disable; (repeat' split) <;> simp (maxDischargeDepth := 9) [h]

@[simp] theorem State.pointerOk_startPair (s : State) (p : Pair) (h : s.pointerOk) : (s.startPair p).pointerOk := by
  unfold State.startPair; simp only []; (repeat' split) <;> simp (maxDischargeDepth := 9) [h]

@[simp] theorem State.pointerOk_enable (s : State) (p : Pair) (h : s.pointerOk) : (s.enable p).pointerOk := by
  unfold State.enable; (repeat' split) <;> simp [h]

@[simp] theorem State.pointerOk_arrive (s : State) (p : Pair) (h : s.pointerOk) : (s.arrive p).pointerOk := by
  unfold State.arrive; (repeat' split) <;> simp [h]

@[simp] theorem State.pointerOk_takeProve (s : State) (p : Pair) (matched : Bool) (h : s.pointerOk) :
    (s.takeProve p matched).pointerOk := by
  unfold State.takeProve; (repeat' split) <;> simp [h]

@[simp] theorem State.pointerOk_takePayload (s : State) (p : Pair) (x : StatusPayload) (h : s.pointerOk) :
    (s.takePayload p x).pointerOk := by
  unfold State.takePayload; simp only []
  refine State.pointerOk_recheckWork _ (State.pointerOk_setGeneration _ _ _ (State.pointerOk_congr (s := if _ then _ else _) rfl ?_))
  split
  · exact State.pointerOk_modPair _ _ _ h
  · exact State.pointerOk_bumpPair _ _ _ _ (State.pointerOk_modPair _ _ _ h)

@[simp] theorem State.pointerOk_takeStatus (s : State) (p : Pair) (x : Option StatusPayload) (h : s.pointerOk) :
    (s.takeStatus p x).pointerOk := by
  unfold State.takeStatus; (repeat' split) <;> simp [h]

@[simp] theorem State.pointerOk_headerErrorNotice (s : State) (p : Pair) (h : s.pointerOk) : (s.headerErrorNotice p).pointerOk := by
  unfold State.headerErrorNotice; simp only []; (repeat' split) <;> simp (maxDischargeDepth := 9) [h]

@[simp] theorem State.pointerOk_conflictNotice (s : State) (p : Pair) (h : s.pointerOk) : (s.conflictNotice p).pointerOk := by
  unfold State.conflictNotice; (repeat' split) <;> simp [h]

@[simp] theorem State.pointerOk_checkCells (s : State) (p : Pair) (h : s.pointerOk) : (s.checkCells p).pointerOk := by
  unfold State.checkCells; simp only []; (repeat' split) <;> simp [h]

@[simp] theorem State.pointerOk_takeTarget (s : State) (t : AllocTarget) (h : s.pointerOk) : (s.takeTarget t).pointerOk := by
  simp +contextual (maxDischargeDepth := 9) [State.takeTarget, State.pointerOk_foldl, State.pointerOk_forPairs, h]

@[simp] theorem State.pointerOk_recompute (s : State) (h : s.pointerOk) : s.recompute.pointerOk := by
  unfold State.recompute; simp only []; (repeat' split) <;> simp [h]

@[simp] theorem State.pointerOk_dropStalePin (s : State) (p : Pair) (h : s.pointerOk) : (s.dropStalePin p).pointerOk := by
  unfold State.dropStalePin; (repeat' split) <;> simp [h]

@[simp] theorem State.pointerOk_enterPin (s : State) (p : Pair) (h : s.pointerOk) : (s.enterPin p).pointerOk := by
  unfold State.enterPin; (repeat' split) <;>
    simp +contextual (maxDischargeDepth := 9) [h, State.pointerOk_foldl, State.pointerOk_forPairs]

@[simp] theorem State.pointerOk_applyPins (s : State) (h : s.pointerOk) : s.applyPins.pointerOk := by
  simp +contextual (maxDischargeDepth := 9) [State.applyPins, State.pointerOk_foldl, State.pointerOk_forPairs, h]

@[simp] theorem State.pointerOk_checkLane (before : List (Option (Fin 8))) (s : State) (p : Pair) (h : s.pointerOk) :
    (State.checkLane before s p).pointerOk := by
  unfold State.checkLane; simp only []; (repeat' split) <;> simp [h]

@[simp] theorem State.pointerOk_recheckLanes (s : State) (before : List (Option (Fin 8))) (h : s.pointerOk) :
    (s.recheckLanes before).pointerOk := by
  unfold State.recheckLanes
  split
  · exact h
  · exact State.pointerOk_forPairs _ _ (fun t p g => State.pointerOk_checkLane before t p g) h

@[simp] theorem State.pointerOk_stopEntry (s : State) (h : s.pointerOk) : s.stopEntry.pointerOk :=
  State.pointerOk_forPairs _ _ (fun t p g => by
    split
    · exact g
    · exact State.pointerOk_hold t p g) (State.pointerOk_congr rfl h)

@[simp] theorem State.pointerOk_stopEnd (s : State) (h : s.pointerOk) : s.stopEnd.pointerOk :=
  State.pointerOk_forPairs _ _ (fun t p g => by
    split
    · exact State.pointerOk_enterDown t p _ _ g
    · exact g) (State.pointerOk_congr rfl h)

@[simp] theorem State.pointerOk_recomputeStop (s : State) (h : s.pointerOk) : s.recomputeStop.pointerOk := by
  unfold State.recomputeStop; simp only []
  (repeat' split)
  · exact h
  · exact State.pointerOk_stopEntry _ (State.pointerOk_bump _ _ _ (State.pointerOk_congr rfl h))
  · exact State.pointerOk_stopEnd _ (State.pointerOk_congr rfl h)

@[simp] theorem State.pointerOk_surgeLatch (s : State) (h : s.pointerOk) : s.surgeLatch.pointerOk :=
  State.pointerOk_recomputeStop _
    (State.pointerOk_bump _ _ _ (State.pointerOk_raise _ _ (State.pointerOk_congr rfl h)))

@[simp] theorem State.pointerOk_acknowledge (s : State) (h : s.pointerOk) : s.acknowledge.pointerOk := by
  unfold State.acknowledge
  (repeat' split)
  · exact State.pointerOk_recomputeStop _ (State.pointerOk_congr rfl h)
  · exact State.pointerOk_bump _ _ _ (State.pointerOk_raise _ _ h)
  · exact State.pointerOk_bump _ _ _ h

@[simp] theorem State.pointerOk_statusExpire (s : State) (p : Pair) (h : s.pointerOk) : (s.statusExpire p).pointerOk := by
  simp [State.statusExpire, h]

@[simp] theorem State.pointerOk_modProf (s : State) (f : ProfileUnit → ProfileUnit) (h : s.pointerOk) : (s.modProf f).pointerOk :=
  State.pointerOk_congr rfl h

@[simp] theorem State.pointerOk_reject (s : State) (serial : Half) (code : RejectCode) (field : Half) (h : s.pointerOk) :
    (s.reject serial code field).pointerOk := by
  unfold State.reject; (repeat' split) <;> simp (maxDischargeDepth := 9) [h]

@[simp] theorem State.pointerOk_rejectOverlap (s : State) (serial : Half) (h : s.pointerOk) :
    (s.rejectOverlap serial).pointerOk :=
  State.pointerOk_congr (s := s.reject serial .overlap (Config.overlapRejectField s.freeIndex)) rfl
    (State.pointerOk_reject s serial .overlap _ h)

@[simp] theorem State.pointerOk_adopt (s : State) (serial : Half) (h : s.pointerOk) : (s.adopt serial).pointerOk := by
  unfold State.adopt; (repeat' split) <;> simp (maxDischargeDepth := 9) [h]

@[simp] theorem State.pointerOk_arbitrationChange (s : State) (old : Image) (h : s.pointerOk) :
    (s.arbitrationChange old).pointerOk := by
  unfold State.arbitrationChange
  split
  · exact h
  · exact State.pointerOk_congr rfl h

@[simp] theorem State.pointerOk_ringChange (old : Image) (s : State) (p : Pair) (h : s.pointerOk) :
    (State.ringChange old s p).pointerOk := by
  unfold State.ringChange; (repeat' split) <;> simp [h]

@[simp] theorem State.pointerOk_postRelease (s : State) (p : Pair) (h : s.pointerOk) : (s.postRelease p).pointerOk := by
  unfold State.postRelease; (repeat' split) <;> simp [h]

@[simp] theorem State.pointerOk_countBlockChange (s : State) (old : Image) (h : s.pointerOk) :
    (s.countBlockChange old).pointerOk := by
  unfold State.countBlockChange; (repeat' split) <;>
    simp +contextual (maxDischargeDepth := 9) [h, State.pointerOk_foldl, State.pointerOk_forPairs]

@[simp] theorem State.pointerOk_deliveryRingChange (s : State) (old : Image) (h : s.pointerOk) :
    (s.deliveryRingChange old).pointerOk := by
  unfold State.deliveryRingChange; (repeat' split) <;> simp [h]

@[simp] theorem State.pointerOk_submissionRingChange (s : State) (old : Image) (h : s.pointerOk) :
    (s.submissionRingChange old).pointerOk := by
  unfold State.submissionRingChange; (repeat' split) <;> simp [h]

@[simp] theorem State.pointerOk_applyEnables (s : State) (h : s.pointerOk) : s.applyEnables.pointerOk :=
  State.pointerOk_forPairs _ _ (fun t p g => by
    split
    · exact State.pointerOk_enable t p g
    · exact g) (State.pointerOk_forPairs _ _ (fun t p g => by
    split
    · exact g
    · exact State.pointerOk_disable t p g) h)

@[simp] theorem State.pointerOk_eventChange (s : State) (old : Image) (h : s.pointerOk) : (s.eventChange old).pointerOk := by
  unfold State.eventChange; (repeat' split) <;> simp [h]

@[simp] theorem State.pointerOk_clearPeer (s : State) (h : s.pointerOk) : s.clearPeer.pointerOk :=
  State.pointerOk_congr rfl h

@[simp] theorem State.pointerOk_bondRestart (s : State) (h : s.pointerOk) : s.bondRestart.pointerOk := by
  unfold State.bondRestart; (repeat' split) <;> simp (maxDischargeDepth := 9) [h]

@[simp] theorem State.pointerOk_passBond (s : State) (h : s.pointerOk) : s.passBond.pointerOk := by
  unfold State.passBond; simp only []; (repeat' split) <;> simp [h]

@[simp] theorem State.pointerOk_passAck (s : State) (h : s.pointerOk) : s.passAck.pointerOk := by
  unfold State.passAck; simp only []; (repeat' split) <;> simp [h]

@[simp] theorem State.pointerOk_passOneShot (s : State) (h : s.pointerOk) : s.passOneShot.pointerOk := by
  unfold State.passOneShot; simp only []; (repeat' split) <;> simp [h]

@[simp] theorem State.pointerOk_passInject (s : State) (p : Pair) (h : s.pointerOk) : (s.passInject p).pointerOk := by
  unfold State.passInject; simp only []; (repeat' split) <;> simp [h]

@[simp] theorem State.pointerOk_passRequests (s : State) (h : s.pointerOk) : s.passRequests.pointerOk := by
  simp +contextual (maxDischargeDepth := 9) [State.passRequests, State.pointerOk_foldl, State.pointerOk_forPairs, h]

@[simp] theorem State.pointerOk_tellBlocks (s : State) (old : Image) (occasion : Bool) (lanes : List (Option (Fin 8))) (h : s.pointerOk) :
    (s.tellBlocks old occasion lanes).pointerOk := by
  have rings := State.pointerOk_forPairs _ _ (fun t p g => State.pointerOk_ringChange old t p g) (State.pointerOk_arbitrationChange s old h)
  have posted := State.pointerOk_deliveryRingChange _ old (State.pointerOk_countBlockChange _ old (State.pointerOk_applyPins _ rings))
  have timed := State.pointerOk_submissionRingChange _ old (State.pointerOk_aim _ (State.pointerOk_capCredits _ posted))
  unfold State.tellBlocks; simp only []
  split <;> simp (maxDischargeDepth := 12) [rings, posted, timed]

@[simp] theorem State.pointerOk_accept (s : State) (serial : Half) (h : s.pointerOk) : (s.accept serial).pointerOk := by
  unfold State.accept; (repeat' split) <;> simp (maxDischargeDepth := 9) [h]

@[simp] theorem State.pointerOk_applyCommit (s : State) (serial : Half) (h : s.pointerOk) : (s.applyCommit serial).pointerOk := by
  unfold State.applyCommit; (repeat' split) <;> simp [h]

@[simp] theorem State.pointerOk_replaceWaiting (s : State) (h : s.pointerOk) : s.replaceWaiting.pointerOk := by
  unfold State.replaceWaiting; (repeat' split) <;> simp [h]

@[simp] theorem State.pointerOk_commit (s : State) (w : Word) (h : s.pointerOk) : (s.commit w).pointerOk := by
  unfold State.commit; simp only []; (repeat' split) <;> simp [h]

@[simp] theorem State.pointerOk_capture (s : State) (words : List (Nat × Word)) (h : s.pointerOk) : (s.capture words).pointerOk := by
  unfold State.capture; (repeat' split) <;> simp [h]

@[simp] theorem State.pointerOk_epoch (s : State) (h : s.pointerOk) : s.epoch.pointerOk := by
  unfold State.epoch; simp only []
  split
  · exact State.pointerOk_applyCommit _ _ (State.pointerOk_congr rfl h)
  · exact State.pointerOk_congr rfl h

@[simp] theorem State.pointerOk_voidNotice (s : State) (p : Pair) (c : Nat) (use : Half) (x : Holder) (h : s.pointerOk) :
    (s.voidNotice p c use x).pointerOk := by
  cases x
  · exact State.pointerOk_windowVoid s p c use h
  · exact State.pointerOk_deliveryVoid s p c use h

@[simp] theorem State.pointerOk_voidCell (s : State) (p : Pair) (c : Nat) (h : s.pointerOk) : (s.voidCell p c).pointerOk := by
  unfold State.voidCell
  split
  · exact State.pointerOk_releaseAdvance _ _
      (State.pointerOk_voidNotice _ _ _ _ _ (State.pointerOk_vacate _ _ _ (State.pointerOk_bumpPair _ _ _ _ h)))
  · exact h

@[simp] theorem State.pointerOk_route (s : State) (p : Pair) (x : Completed) (h : s.pointerOk) : (s.route p x).pointerOk := by
  unfold State.route; (repeat' split) <;> simp [h]

@[simp] theorem State.pointerOk_dropLane (s : State) (p : Pair) (x : Completed) (c : PCounter) (h : s.pointerOk) :
    (s.dropLane p x c).pointerOk := by
  simp [State.dropLane, h]

@[simp] theorem State.pointerOk_laneCheck (s : State) (p : Pair) (x : Completed) (h : s.pointerOk) :
    (s.laneCheck p x).pointerOk := by
  unfold State.laneCheck; (repeat' split) <;> simp [h]

@[simp] theorem State.pointerOk_completeLanding (s : State) (p : Pair) (hdr : Header) (matching : Bool) (captured : List Word) (h : s.pointerOk) :
    (s.completeLanding p hdr matching captured).pointerOk := by
  unfold State.completeLanding; (repeat' split) <;> simp (maxDischargeDepth := 9) [h]

@[simp] theorem State.pointerOk_setCursor (s : State) (p : Pair) (c : Cursor) (h : s.pointerOk) : (s.setCursor p c).pointerOk := by
  simp [State.setCursor, h]

@[simp] theorem State.pointerOk_headerError (s : State) (p : Pair) (cause : ErrorCause) (h : s.pointerOk) :
    (s.headerError p cause).pointerOk := by
  unfold State.headerError; (repeat' split) <;> simp (maxDischargeDepth := 9) [h]

@[simp] theorem State.pointerOk_landWord (s : State) (p : Pair) (w : Word) (h : s.pointerOk) : (s.landWord p w).pointerOk := by
  unfold State.landWord; (repeat' split) <;> simp [h]

@[simp] theorem State.pointerOk_landWords (s : State) (p : Pair) (words : List Word) (h : s.pointerOk) :
    (s.landWords p words).pointerOk := by
  simp +contextual (maxDischargeDepth := 9) [State.landWords, State.pointerOk_foldl, State.pointerOk_forPairs, h]

@[simp] theorem State.pointerOk_startLanding (s : State) (p : Pair) (words : List Word) (h : s.pointerOk) :
    (s.startLanding p words).pointerOk := by
  unfold State.startLanding; (repeat' split) <;> simp [h]

@[simp] theorem State.pointerOk_endInProgress (s : State) (p : Pair) (cls : RingClass) (c offset : Nat) (h : s.pointerOk) :
    (s.endInProgress p cls c offset).pointerOk := by
  unfold State.endInProgress; simp only []; (repeat' split) <;> simp [h]

@[simp] theorem State.pointerOk_takeOwner (s : State) (p : Pair) (c offset : Nat) (words : List Word) (h : s.pointerOk) :
    (s.takeOwner p c offset words).pointerOk := by
  unfold State.takeOwner; simp only []; (repeat' split) <;> simp [h]

@[simp] theorem State.pointerOk_ringArrival (s : State) (p : Pair) (cls : RingClass) (c offset : Nat) (words : List Word) (h : s.pointerOk) :
    (s.ringArrival p cls c offset words).pointerOk := by
  have v := State.pointerOk_voidCell s p c h
  have u := State.pointerOk_releaseAdvance _ p (State.pointerOk_endInProgress _ p cls c offset v)
  unfold State.ringArrival; simp only []
  (repeat' split)
  · exact State.pointerOk_bumpPair _ _ _ _ v
  · exact v
  · exact State.pointerOk_takeOwner _ _ _ _ _ u
  · exact u

@[simp] theorem State.pointerOk_handOn (s : State) (x : HandOn) (h : s.pointerOk) : (s.handOn x).pointerOk := by
  cases x <;> simp [State.handOn, h]

@[simp] theorem State.pointerOk_forwardOk (s : State) (label : Label) (data : List Word) (h : s.pointerOk) :
    (s.forwardOk label data).pointerOk := by
  unfold State.forwardOk; simp only []
  (repeat' split)
  · exact h
  · exact State.pointerOk_foldl _ (fun t x g => State.pointerOk_handOn t x g) _ _ (State.pointerOk_closeUp _ _ h)
  · exact State.pointerOk_clearOnRead _ _ (State.pointerOk_closeUp _ _ h)
  · exact State.pointerOk_closeUp _ _ h

@[simp] theorem State.pointerOk_eventWordEnd (s : State) (h : s.pointerOk) : s.eventWordEnd.pointerOk := by
  unfold State.eventWordEnd; (repeat' split) <;> simp [h]

@[simp] theorem State.pointerOk_eventWordOk (s : State) (h : s.pointerOk) : s.eventWordOk.pointerOk := by
  simp [State.eventWordOk, h]

@[simp] theorem State.pointerOk_succeed (s : State) (t : DownTx) (data : List Word) (h : s.pointerOk) :
    (s.succeed t data).pointerOk := by
  unfold State.succeed; (repeat' split) <;> simp [h]

@[simp] theorem State.pointerOk_closeOpened (s : State) (t : DownTx) (h : s.pointerOk) : (s.closeOpened t).pointerOk := by
  unfold State.closeOpened; (repeat' split) <;> simp [h]

@[simp] theorem State.pointerOk_forwardFailed (s : State) (t : DownTx) (label : Label) (h : s.pointerOk) :
    (s.forwardFailed t label).pointerOk := by
  unfold State.forwardFailed; (repeat' split) <;> simp [h]

@[simp] theorem State.pointerOk_failTo (s : State) (t : DownTx) (h : s.pointerOk) : (s.failTo t).pointerOk := by
  unfold State.failTo; (repeat' split) <;> simp [h]

@[simp] theorem State.pointerOk_pathFault (s : State) (t : DownTx) (h : s.pointerOk) : (s.pathFault t).pointerOk := by
  unfold State.pathFault; (repeat' split) <;> simp [h]

@[simp] theorem State.pointerOk_memoryError (s : State) (d : Label) (t : DownTx) (h : s.pointerOk) :
    (s.memoryError d t).pointerOk := by
  unfold State.memoryError; (repeat' split) <;> simp (maxDischargeDepth := 9) [h]

@[simp] theorem State.pointerOk_timeOut (s : State) (d : Label) (t : DownTx) (h : s.pointerOk) : (s.timeOut d t).pointerOk := by
  unfold State.timeOut; (repeat' split) <;> simp (maxDischargeDepth := 9) [h]

@[simp] theorem State.pointerOk_lateAnswer (s : State) (d : Label) (h : s.pointerOk) : (s.lateAnswer d).pointerOk := by
  simp [State.lateAnswer, h]

@[simp] theorem State.pointerOk_limitExpiry (s : State) (d : Label) (us : Nat) (h : s.pointerOk) :
    (s.limitExpiry d us).pointerOk := by
  unfold State.limitExpiry; (repeat' split) <;> simp [h]

@[simp] theorem State.pointerOk_discardLate (s : State) (d : Label) (h : s.pointerOk) : (s.discardLate d).pointerOk := by
  unfold State.discardLate; (repeat' split) <;> simp [h]

@[simp] theorem State.pointerOk_fullReset (s : State) : s.fullReset.pointerOk :=
  List.Pairwise.nil

@[simp] theorem State.pointerOk_release (s : State) (us : Nat) (h : s.pointerOk) : (s.release us).pointerOk := by
  unfold State.release; simp only []
  split
  · exact State.pointerOk_congr rfl h
  · exact State.pointerOk_surgeLatch _ (State.pointerOk_congr rfl h)

@[simp] theorem State.pointerOk_quietEnd (s : State) (us : Nat) (h : s.pointerOk) : (s.quietEnd us).pointerOk := by
  unfold State.quietEnd
  split
  · exact State.pointerOk_congr rfl h
  · exact h

@[simp] theorem State.pointerOk_countForeign (s : State) (data : List WriteWord) (ts : List Treatment) (h : s.pointerOk) :
    (s.countForeign data ts).pointerOk := by
  unfold State.countForeign; simp only []; (repeat' split) <;> simp (maxDischargeDepth := 12) [h]

@[simp] theorem State.pointerOk_countPartial (s : State) (data : List WriteWord) (ts : List Treatment) (h : s.pointerOk) :
    (s.countPartial data ts).pointerOk := by
  unfold State.countPartial; simp only []; (repeat' split) <;> simp (maxDischargeDepth := 12) [h]

@[simp] theorem State.pointerOk_openUp (s : State) (t : UpTx) (h : s.pointerOk) : (s.openUp t).pointerOk := by
  simp [State.openUp, h]

@[simp] theorem State.pointerOk_refuse (s : State) (label : Label) (tag : Tag) (h : s.pointerOk) :
    (s.refuse label tag).pointerOk := by
  simp [State.refuse, h]

@[simp] theorem State.pointerOk_strayAccess (s : State) (label : Label) (tag : Tag) (h : s.pointerOk) :
    (s.strayAccess label tag).pointerOk := by
  unfold State.strayAccess; (repeat' split) <;> simp (maxDischargeDepth := 9) [h]

@[simp] theorem State.pointerOk_refuseWindow (s : State) (label : Label) (tag : Tag) (c : GCounter) (h : s.pointerOk) :
    (s.refuseWindow label tag c).pointerOk := by
  unfold State.refuseWindow; (repeat' split) <;> simp (maxDischargeDepth := 9) [h]

@[simp] theorem State.pointerOk_acceptRead (s : State) (label : Label) (tag : Tag) (addr : Word) (count : Nat) (r : Redirect) (h : s.pointerOk) :
    (s.acceptRead label tag addr count r).pointerOk := by
  unfold State.acceptRead; (repeat' split) <;> simp (maxDischargeDepth := 9) [h]

@[simp] theorem State.pointerOk_takeWindowRead (s : State) (label : Label) (tag : Tag) (addr : Word) (count offset : Nat) (h : s.pointerOk) :
    (s.takeWindowRead label tag addr count offset).pointerOk := by
  unfold State.takeWindowRead; (repeat' split) <;> simp [h]

@[simp] theorem State.pointerOk_forwardRead (s : State) (label : Label) (tag : Tag) (addr : Word) (count : Nat) (cs : List WordClass) (h : s.pointerOk) :
    (s.forwardRead label tag addr count cs).pointerOk := by
  unfold State.forwardRead; simp only []; (repeat' split) <;> simp [h]

@[simp] theorem State.pointerOk_takeRead (s : State) (label : Label) (tag : Tag) (addr : Word) (count : Nat) (h : s.pointerOk) :
    (s.takeRead label tag addr count).pointerOk := by
  unfold State.takeRead; simp only []; (repeat' split) <;> simp [h]

@[simp] theorem State.pointerOk_guardRefuse (s : State) (label : Label) (tag : Tag) (data : List WriteWord) (ts : List Treatment) (h : s.pointerOk) :
    (s.guardRefuse label tag data ts).pointerOk :=
  State.pointerOk_raise _ _ (State.pointerOk_countForeign _ _ _ (State.pointerOk_respond _ _ h))

@[simp] theorem State.pointerOk_forwardWrite (s : State) (label : Label) (tag : Tag) (addr : Word) (data : List WriteWord) (ts : List Treatment) (h : s.pointerOk) :
    (s.forwardWrite label tag addr data ts).pointerOk := by
  have p := State.pointerOk_countPartial _ data ts (State.pointerOk_countForeign s data ts h)
  unfold State.forwardWrite; simp only []
  refine State.pointerOk_openUp _ _ ?_
  split
  · exact State.pointerOk_raise _ _ p
  · exact p

@[simp] theorem State.pointerOk_takeWrite (s : State) (label : Label) (tag : Tag) (addr : Word) (data : List WriteWord) (h : s.pointerOk) :
    (s.takeWrite label tag addr data).pointerOk := by
  unfold State.takeWrite; simp only []
  (repeat' split)
  · exact State.pointerOk_refuse _ _ _ h
  · exact State.pointerOk_strayAccess _ _ _ h
  · exact State.pointerOk_guardRefuse _ _ _ _ _ h
  · exact State.pointerOk_forwardWrite _ _ _ _ _ _ h

@[simp] theorem State.pointerOk_takeLocked (s : State) (t : UpTx) (h : s.pointerOk) : (s.takeLocked t).pointerOk := by
  unfold State.takeLocked; simp only []; (repeat' split) <;> simp [h]

@[simp] theorem State.pointerOk_takeLockedRead (s : State) (label : Label) (tag : Tag) (addr : Word) (count : Nat) (h : s.pointerOk) :
    (s.takeLockedRead label tag addr count).pointerOk := by
  unfold State.takeLockedRead; (repeat' split) <;> simp [h]

@[simp] theorem State.pointerOk_takeLockedWrite (s : State) (label : Label) (tag : Tag) (addr : Word) (data : List WriteWord) (h : s.pointerOk) :
    (s.takeLockedWrite label tag addr data).pointerOk := by
  simp [State.takeLockedWrite, h]

@[simp] theorem State.pointerOk_afterGrant (s : State) (r : Requester) (waited : Bool) (h : s.pointerOk) :
    (s.afterGrant r waited).pointerOk := by
  unfold State.afterGrant
  (repeat' split) <;> exact State.pointerOk_congr rfl h

@[simp] theorem State.pointerOk_issue (s : State) (d : Label) (us : Nat) (kind : TxKind) (addr : Word) (count : Nat) (tag : Tag) (data : List WriteWord) (issuer : Issuer) (h : s.pointerOk) :
    (s.issue d us kind addr count tag data issuer).pointerOk := by
  simp [State.issue, h]

@[simp] theorem State.pointerOk_refuseSecond (s : State) (tag : Tag) (h : s.pointerOk) : (s.refuseSecond tag).pointerOk := by
  simp +contextual (maxDischargeDepth := 9) [State.refuseSecond, State.pointerOk_foldl, State.pointerOk_forPairs, h]

@[simp] theorem State.pointerOk_lockOver (s : State) (t : UpTx) (us : Nat) (h : s.pointerOk) : (s.lockOver t us).pointerOk := by
  unfold State.lockOver; (repeat' split) <;> simp [h]

@[simp] theorem State.pointerOk_issuePiece (s : State) (t : UpTx) (r : Redirect) (d : Label) (us : Nat) (h : s.pointerOk) :
    (s.issuePiece t r d us).pointerOk := by
  unfold State.issuePiece; (repeat' split) <;> simp [h]

@[simp] theorem State.pointerOk_issuePass (s : State) (t : UpTx) (d : Label) (us : Nat) (h : s.pointerOk) :
    (s.issuePass t d us).pointerOk := by
  unfold State.issuePass; (repeat' split) <;> simp (maxDischargeDepth := 9) [h]

@[simp] theorem State.pointerOk_noteIssue (s : State) (t : Target) (h : s.pointerOk) : (s.noteIssue t).pointerOk := by
  unfold State.noteIssue; (repeat' split) <;> simp [h]

/-- The head entry is issued and leaves the list (R16). -/
theorem State.pointerOk_issuePointer (s : State) (e : PointerEntry) (rest : List PointerEntry) (addr : Nat) (d : Label) (us : Nat)
    (l : s.path.pointer = e :: rest) (h : s.pointerOk) : (s.issuePointer e rest addr d us).pointerOk := by
  have t := State.pointerOk_tail s e rest l h
  unfold State.issuePointer State.noteIssue
  split <;> exact State.pointerOk_congr (s := s.setPointer rest) rfl t

@[simp] theorem State.pointerOk_issueCopier (s : State) (w : Work) (d : Label) (us : Nat) (h : s.pointerOk) :
    (s.issueCopier w d us).pointerOk := by
  unfold State.issueCopier; (repeat' split) <;> simp [h]

@[simp] theorem State.pointerOk_issueFetch (s : State) (f : Fetch) (d : Label) (us : Nat) (h : s.pointerOk) :
    (s.issueFetch f d us).pointerOk := by
  simp [State.issueFetch, h]

@[simp] theorem State.pointerOk_issuePublication (s : State) (w : PubWrite) (d : Label) (us : Nat) (h : s.pointerOk) :
    (s.issuePublication w d us).pointerOk := by
  simp [State.issuePublication, h]

@[simp] theorem State.pointerOk_grantTo (s : State) (r : Requester) (d : Label) (us : Nat) (h : s.pointerOk) :
    (s.grantTo r d us).pointerOk := by
  unfold State.grantTo; simp only []
  split
  · split
    · exact State.pointerOk_afterGrant _ _ _ (State.pointerOk_issuePass s _ d us h)
    · exact h
  · split
    · exact h
    · next l =>
      split
      · exact State.pointerOk_afterGrant _ _ _ (State.pointerOk_issuePointer s _ _ _ d us l h)
      · exact State.pointerOk_tail s _ _ l h
  · split
    · exact State.pointerOk_afterGrant _ _ _ (State.pointerOk_issueCopier s _ d us h)
    · exact h
  · split
    · exact State.pointerOk_afterGrant _ _ _ (State.pointerOk_issueFetch s _ d us h)
    · exact h
  · split
    · exact State.pointerOk_afterGrant _ _ _ (State.pointerOk_issuePublication s _ d us h)
    · exact h

@[simp] theorem State.pointerOk_grant (s : State) (d : Label) (us : Nat) (h : s.pointerOk) : (s.grant d us).pointerOk := by
  unfold State.grant; (repeat' split) <;> simp [h]

@[simp] theorem State.pointerOk_breakLock (s : State) (us : Nat) (h : s.pointerOk) : (s.breakLock us).pointerOk := by
  unfold State.breakLock; (repeat' split) <;> simp (maxDischargeDepth := 9) [h]

@[simp] theorem State.pointerOk_takeRoom (s : State) (h : s.pointerOk) : s.takeRoom.pointerOk :=
  State.pointerOk_settle _ (State.pointerOk_congr rfl h)

@[simp] theorem State.pointerOk_skewDue (s : State) (h : s.pointerOk) : s.skewDue.pointerOk := by
  unfold State.skewDue; (repeat' split) <;> simp [h]

@[simp] theorem State.pointerOk_selectNext (s : State) (h : s.pointerOk) : s.selectNext.pointerOk := by
  unfold State.selectNext; (repeat' split) <;> simp [h]

@[simp] theorem State.pointerOk_stallDue (s : State) (h : s.pointerOk) : s.stallDue.pointerOk := by
  unfold State.stallDue; (repeat' split) <;> simp [h]

@[simp] theorem State.pointerOk_reportReleased (s : State) (h : s.pointerOk) : s.reportReleased.pointerOk := by
  unfold State.reportReleased; (repeat' split) <;> simp [h]

@[simp] theorem State.pointerOk_takePending (s : State) (h : s.pointerOk) : s.takePending.pointerOk := by
  unfold State.takePending; (repeat' split) <;> simp [h]

@[simp] theorem State.pointerOk_dataStep (s : State) (h : s.pointerOk) : s.dataStep.pointerOk := by
  unfold State.dataStep; (repeat' split) <;> simp [h]

@[simp] theorem State.pointerOk_replaceStep (s : State) (h : s.pointerOk) : s.replaceStep.pointerOk := by
  unfold State.replaceStep; (repeat' split) <;> simp [h]

@[simp] theorem State.pointerOk_statusStep (s : State) (h : s.pointerOk) : s.statusStep.pointerOk := by
  unfold State.statusStep; (repeat' split) <;> simp [h]

@[simp] theorem State.pointerOk_proveStep (s : State) (h : s.pointerOk) : s.proveStep.pointerOk := by
  unfold State.proveStep; (repeat' split) <;> simp [h]

@[simp] theorem State.pointerOk_takeDrained (s : State) (p : Pair) (h : s.pointerOk) : (s.takeDrained p).pointerOk := by
  unfold State.takeDrained; (repeat' split) <;> simp [h]

@[simp] theorem State.pointerOk_endProving (s : State) (p : Pair) (h : s.pointerOk) : (s.endProving p).pointerOk := by
  unfold State.endProving; (repeat' split) <;> simp [h]

@[simp] theorem State.pointerOk_silenceDue (s : State) (p : Pair) (h : s.pointerOk) : (s.silenceDue p).pointerOk := by
  unfold State.silenceDue; (repeat' split) <;> simp [h]

@[simp] theorem State.pointerOk_surgeFall (s : State) (h : s.pointerOk) : s.surgeFall.pointerOk := by
  unfold State.surgeFall State.whenUp; simp only []
  (repeat' split)
  · exact State.pointerOk_surgeLatch _ (State.pointerOk_congr rfl h)
  · exact State.pointerOk_congr rfl h
  · exact h

@[simp] theorem State.pointerOk_switchClock (s : State) (c : ClockSource) (h : s.pointerOk) : (s.switchClock c).pointerOk :=
  State.pointerOk_bump _ _ _ (State.pointerOk_raise _ _ (State.pointerOk_congr rfl h))

@[simp] theorem State.pointerOk_reportTimerDue (s : State) (h : s.pointerOk) : s.reportTimerDue.pointerOk := by
  unfold State.reportTimerDue; (repeat' split) <;> simp [h]

@[simp] theorem State.pointerOk_startDue (s : State) (h : s.pointerOk) : s.startDue.pointerOk := by
  unfold State.startDue; (repeat' split) <;> simp [h]

@[simp] theorem State.pointerOk_releaseAtEnd (s : State) (h : s.pointerOk) : s.releaseAtEnd.pointerOk := by
  unfold State.releaseAtEnd; (repeat' split) <;> simp [h]

@[simp] theorem State.pointerOk_tick (s : State) (h : s.pointerOk) : s.tick.pointerOk :=
  State.pointerOk_congr rfl h

end Sys2Proof.Machine
end

