-- ==== Sys2Proof/Laws/Receive.lean ====
section
/-! SUPPORT. What the receive side's shared operations do: changes of every pair, frees, arrivals, the window and the moves of its
head. -/

namespace Sys2Proof.Machine

/-! ## A change of every pair's record -/

/-- A change made for each pair in turn changes each pair's record once. -/
theorem State.pair_forPairs_modPair (s : State) (f : Pair → PairRec → PairRec) (q : Pair) :
    (s.forPairs fun t p => t.modPair p (f p)).pair q = f q (s.pair q) := by
  have h : q = 0 ∨ q = 1 ∨ q = 2 ∨ q = 3 ∨ q = 4 ∨ q = 5 ∨ q = 6 ∨ q = 7 := by
    revert q; decide
  rcases h with h | h | h | h | h | h | h | h <;> subst h <;> simp [State.forPairs, allPairs, State.pair_modPair]

/-- A change of the pairs' records leaves every other field. -/
theorem State.forPairs_modPair_frame (s : State) (f : Pair → PairRec → PairRec) :
    ∃ v, (s.forPairs fun t p => t.modPair p (f p)) = { s with pairs := v } :=
  ⟨(s.forPairs fun t p => t.modPair p (f p)).pairs, by simp [State.forPairs, allPairs, State.modPair]⟩

/-! ## Frees (R30 to R32) -/

/-- The release count's advance changes its pair and the Pointer Writer's list at most (R30). -/
theorem State.releaseAdvance_frame (s : State) (p : Pair) :
    ∃ v l, s.releaseAdvance p = ({ s with pairs := v } : State).setPointer l := by
  unfold State.releaseAdvance
  split
  · exact ⟨s.pairs, s.path.pointer, rfl⟩
  · obtain ⟨l, h⟩ := State.postCount_eq (s.modPair p fun r => { r with released := r.releasable }) (releaseOffset p)
      (s.pair p).releasable
    exact ⟨_, l, h⟩

/-- The advance changes its pair's release count at most. -/
theorem State.pair_releaseAdvance (s : State) (p q : Pair) :
    (s.releaseAdvance p).pair q = if q = p then { s.pair p with released := (s.pair p).releasable } else s.pair q := by
  unfold State.releaseAdvance
  split
  · next h =>
    split
    · next e => subst e; rw [h]
    · rfl
  · rw [State.pair_congr (State.postCount_pairs _ _ _), State.pair_modPair]

@[simp] theorem State.releaseAdvance_cells (s : State) (p : Pair) : ((s.releaseAdvance p).pair p).cells = (s.pair p).cells := by
  simp [State.pair_releaseAdvance]
@[simp] theorem State.releaseAdvance_landed (s : State) (p : Pair) : ((s.releaseAdvance p).pair p).landed = (s.pair p).landed := by
  simp [State.pair_releaseAdvance]
@[simp] theorem State.releaseAdvance_cursor (s : State) (p : Pair) : ((s.releaseAdvance p).pair p).cursor = (s.pair p).cursor := by
  simp [State.pair_releaseAdvance]

/-- The vacated cell is FREE, the others are as they were, and no counter changes. -/
theorem State.vacate_pair (s : State) (p : Pair) (c : Nat) :
    ((s.vacate p c).pair p).cells = (s.pair p).cells.set c .free ∧
      ((s.vacate p c).pair p).counters = (s.pair p).counters := by
  unfold State.vacate State.drainedNotice
  split <;> simp [PairRec.setCell]

/-- A cell that becomes FREE changes the pairs at most. -/
theorem State.vacate_frame (s : State) (p : Pair) (c : Nat) : ∃ v, s.vacate p c = { s with pairs := v } := by
  unfold State.vacate State.drainedNotice
  split <;> exact ⟨_, rfl⟩

/-- A free changes the pairs and the Pointer Writer's list at most. -/
theorem State.cellFree_frame (s : State) (p : Pair) (c : Nat) : ∃ v l, s.cellFree p c = ({ s with pairs := v } : State).setPointer l := by
  obtain ⟨v, h⟩ := s.vacate_frame p c
  obtain ⟨w, l, g⟩ := (s.vacate p c).releaseAdvance_frame p
  exact ⟨w, l, by unfold State.cellFree; rw [g, h]⟩

theorem State.freeUse_frame (s : State) (p : Pair) (c : Nat) (use : Half) :
    ∃ v l, s.freeUse p c use = ({ s with pairs := v } : State).setPointer l := by
  unfold State.freeUse
  (repeat' split) <;> first | exact s.cellFree_frame p c | exact ⟨s.pairs, s.path.pointer, rfl⟩

/-! ## Arrivals of ring writes (R28, R34, R39, R41) -/

/-- A write that touches no HELD cell voids nothing (R39). -/
theorem State.voidCell_not_held (s : State) (p : Pair) (c : Nat) (h : ∀ use x, (s.pair p).cells[c]? ≠ some (.held use x)) :
    s.voidCell p c = s := by
  unfold State.voidCell
  split
  · next use x e => exact absurd e (h use x)
  · rfl

/-- A void moves no pair to another state. -/
theorem State.voidCell_state (s : State) (p q : Pair) (c : Nat) : ((s.voidCell p c).pair q).state = (s.pair q).state := by
  apply State.state_of_calm
  unfold State.voidCell State.voidNotice
  (repeat' split) <;> simp

/-- Words after a landing's end are ignored (R34). -/
theorem State.landWords_idle (s : State) (p : Pair) (ws : List Word) (h : (s.pair p).cursor = .idle) : s.landWords p ws = s := by
  unfold State.landWords
  induction ws with
  | nil => rfl
  | cons w ws ih => rw [List.foldl_cons, show s.landWord p w = s by unfold State.landWord; rw [h]]; exact ih

/-- A lane in no pair's entry is held by no pair (R40). -/
theorem State.laneHolder_none (s : State) (l : Fin 8) (h : ∀ q e, (s.pair q).lane = some e → e.lane ≠ l) : s.laneHolder l = none := by
  unfold State.laneHolder
  rw [List.find?_eq_none]
  intro q _
  split
  · next e he => simp [h q e he]
  · simp

/-- A lane in some pair's entry is held by a pair (R40). -/
theorem State.laneHolder_some (s : State) (l : Fin 8) (h : ∃ q e, (s.pair q).lane = some e ∧ e.lane = l) :
    (s.laneHolder l).isSome = true := by
  obtain ⟨q, e, h1, h2⟩ := h
  have all : ∀ q : Pair, q ∈ allPairs := by decide
  unfold State.laneHolder
  rw [List.find?_isSome]
  exact ⟨q, all q, by rw [h1]; simp [h2]⟩

/-! ## The window (R46, R47, R74) -/

theorem State.positions_length (s : State) : s.positions.length = 512 := by simp [State.positions]

/-- A position of a window built from a list: EMPTY beyond the list. -/
theorem windowOf_getElem (ps : List Pos) (k : Nat) (h : k < 512) : (windowOf ps)[k] = (ps[k]?).getD .empty := by
  have e : (windowOf ps)[k] = ((ps ++ List.replicate 512 Pos.empty).take 512)[k]'(by
      rw [List.length_take, List.length_append, List.length_replicate]; omega) := rfl
  rw [e, List.getElem_take, List.getElem_append]
  split
  · next h => rw [List.getElem?_eq_getElem h]; rfl
  · next h => rw [List.getElem?_eq_none (Nat.le_of_not_lt h), List.getElem_replicate]; rfl

/-- A position looked up in the list of positions. -/
theorem State.positions_getD (s : State) (n : Nat) (h : n < 512) : s.positions.getD n .lost = s.reseq.window[n] := by
  have hl := s.positions_length
  rw [List.getD_eq_getElem?_getD, List.getElem?_eq_getElem (by omega)]
  simp [State.positions]

/-- A declaration turns the EMPTY positions before position n LOST and no other (R74). -/
theorem declareBelow_getElem (n : Nat) (ps : List Pos) (i : Nat) :
    (declareBelow n ps)[i]? = ps[i]?.map fun x => if i < n ∧ x = .empty then .lost else x := by
  induction ps generalizing n i with
  | nil => cases n <;> rfl
  | cons x xs ih =>
    cases n with
    | zero => simp [declareBelow]
    | succ n =>
      cases i with
      | zero => cases x <;> simp [declareBelow]
      | succ i => cases x <;> simp [declareBelow, ih]

theorem State.declare_window (s : State) (n i : Nat) (h : i < 512) :
    (s.declare n).reseq.window[i] = if i < n ∧ s.reseq.window[i] = .empty then .lost else s.reseq.window[i] := by
  have hl := s.positions_length
  have e : (s.declare n).reseq.window = windowOf (declareBelow n s.positions) := rfl
  simp only [e]
  rw [windowOf_getElem _ _ h, declareBelow_getElem, List.getElem?_eq_getElem (by omega)]
  simp [State.positions]

/-- The positions after the head has moved by 1. -/
theorem State.window_drop_one (s : State) (k : Nat) (h : k < 511) :
    (windowOf (s.positions.drop 1))[k] = s.reseq.window[k + 1] := by
  rw [windowOf_getElem _ _ (by omega), List.getElem?_drop, Nat.add_comm 1 k]
  have : k + 1 < s.positions.length := by rw [s.positions_length]; omega
  rw [List.getElem?_eq_getElem this]
  simp [State.positions]

theorem State.window_drop_one_last (s : State) : (windowOf (s.positions.drop 1))[511] = .empty := by
  have h := s.positions_length
  rw [windowOf_getElem _ _ (by omega), List.getElem?_eq_none]
  · rfl
  · simp only [List.length_drop]; omega

/-- The head position and the rest of the window. -/
theorem State.positions_head (s : State) (x : Pos) (h : s.reseq.window[0] = x) :
    ∃ rest, s.positions = x :: rest ∧ rest.length = 511 := by
  have hl := s.positions_length
  cases hp : s.positions with
  | nil => rw [hp] at hl; cases hl
  | cons y ys =>
    rw [hp] at hl
    refine ⟨ys, ?_, by simpa using hl⟩
    have e : s.positions[0]? = some x := by simp [State.positions, h]
    rw [hp] at e
    simpa using e

/-- The head's move by n: the head, the window and the horizons, and nothing else (R47). -/
theorem State.moveHead_frame (s : State) (n : Nat) :
    ∃ v, s.moveHead n =
      { s with reseq := { s.reseq with head := s.reseq.head + halfOf n, window := windowOf (s.positions.drop n) }, pairs := v } :=
  State.forPairs_modPair_frame
    { s with reseq := { s.reseq with head := s.reseq.head + halfOf n, window := windowOf (s.positions.drop n) } }
    fun _ r => { r with horizon := r.horizon.map (trail s.reseq.head n) }

/-- The head's move by n changes a pair's record in its horizon alone. -/
theorem State.moveHead_pair (s : State) (n : Nat) (p : Pair) :
    (s.moveHead n).pair p = { s.pair p with horizon := (s.pair p).horizon.map (trail s.reseq.head n) } :=
  State.pair_forPairs_modPair
    { s with reseq := { s.reseq with head := s.reseq.head + halfOf n, window := windowOf (s.positions.drop n) } }
    (fun _ r => { r with horizon := r.horizon.map (trail s.reseq.head n) }) p

end Sys2Proof.Machine
end

