-- ==== Sys2Proof/Laws/Supervision.lean ====
section
/-! SUPPORT. The supervised part of the Pair Records: what the Pair Supervisor and the Distributor's credit hold of a pair. Frees, head
processing and the end of the Copier's work keep it: one lemma for each; and what a change of state leaves of it. -/

namespace Sys2Proof.Machine

set_option linter.unusedSimpArgs false

/-- The parts of a Pair Record that frees, head processing and the Copier leave. -/
structure Watch where
  state        : PairState
  reason       : Reason
  silence      : Option Time
  deadline     : Option Time
  recentErrors : Nat
  proving      : Proving
  flaps        : List Time
  factor       : Nat
  entered      : Option Time
  peerState    : Byte
  lane         : Option LaneEntry
  alloc        : Alloc
  credit       : Int
  hasHorizon   : Bool
  statusDue    : Bool
  statusTimer  : Option Time
  /-- The eight counters of the Pair Supervisor (R187). -/
  counts       : List Word

def PairRec.watch (r : PairRec) : Watch :=
  { state := r.state, reason := r.reason, silence := r.silence, deadline := r.deadline, recentErrors := r.recentErrors,
    proving := r.proving, flaps := r.flaps, factor := r.factor, entered := r.entered, peerState := r.peerState, lane := r.lane,
    alloc := r.alloc, credit := r.credit, hasHorizon := r.horizon.isSome, statusDue := r.statusDue,
    statusTimer := r.statusTimer,
    counts := [r.count .stateChange, r.count .activations, r.count .provingFail, r.count .silenceExpiry, r.count .errorBurst,
               r.count .pairLoss, r.count .quarantineEntry, r.count .badPeerState] }

def State.watched (s : State) : List Watch := s.pairs.toList.map PairRec.watch

/-- A change of a record that keeps its supervised part keeps that of all. -/
theorem State.watched_modPair (s : State) (p : Pair) (f : PairRec → PairRec) (h : ∀ r, (f r).watch = r.watch) :
    (s.modPair p f).watched = s.watched := by
  apply List.ext_getElem
  · simp [State.watched]
  · intro i h1 h2
    simp only [State.watched, State.modPair_pairs, List.getElem_map, Vector.getElem_toList, Vector.getElem_set]
    split
    · next e => subst e; exact h _
    · rfl

theorem State.watched_forPairs (s : State) (f : State → Pair → State) (h : ∀ t p, (f t p).watched = t.watched) :
    (s.forPairs f).watched = s.watched := by
  simp [State.forPairs, allPairs, h]

theorem State.watched_foldl {α : Type} (f : State → α → State) (h : ∀ t x, (f t x).watched = t.watched) (l : List α) (s : State) :
    (l.foldl f s).watched = s.watched := by
  induction l generalizing s with
  | nil => rfl
  | cons x xs ih => rw [List.foldl_cons, ih, h]

/-- The supervised part of a pair of two states that agree on it. -/
theorem State.watch_of_watched {s t : State} (h : s.watched = t.watched) (p : Pair) : (s.pair p).watch = (t.pair p).watch := by
  have := congrArg (fun l => l[p.val]?) h
  simpa [State.watched, State.pair] using this

theorem State.watched_pairs (s t : State) (h : s.pairs = t.pairs) : s.watched = t.watched := by rw [State.watched, h]; rfl

theorem State.watched_path (s : State) (x : Path) : State.watched { s with path := x } = s.watched := rfl
theorem State.watched_reseq (s : State) (x : Reseq) : State.watched { s with reseq := x } = s.watched := rfl
theorem State.watched_deliv (s : State) (x : Delivery) : State.watched { s with deliv := x } = s.watched := rfl
theorem State.watched_rep (s : State) (x : Report) : State.watched { s with rep := x } = s.watched := rfl

@[simp] theorem PairRec.watch_setCell (r : PairRec) (c : Nat) (x : Cell) : (r.setCell c x).watch = r.watch := rfl

/-- Counting the end of abandoned work is none of the Pair Supervisor's counters. -/
theorem PairRec.watch_bump_abandoned (r : PairRec) (n : Nat) : (r.bump .abandoned n).watch = r.watch := by
  have h := fun c : PCounter => r.count_bump_ne .abandoned c n
  simp only [PairRec.watch]
  rw [h _ (by decide), h _ (by decide), h _ (by decide), h _ (by decide), h _ (by decide), h _ (by decide), h _ (by decide),
    h _ (by decide)]
  rfl

@[simp] theorem State.watched_bumpPair_abandoned (s : State) (p : Pair) (n : Nat) :
    (s.bumpPair p .abandoned n).watched = s.watched :=
  State.watched_modPair _ _ _ fun r => r.watch_bump_abandoned n

/-! ## One lemma for each operation -/

@[simp] theorem State.watched_bump (s : State) (c : GCounter) (n : Nat) : (s.bump c n).watched = s.watched := State.watched_pairs _ _ (by simp)

@[simp] theorem State.watched_respond (s : State) (r : Response) : (s.respond r).watched = s.watched := State.watched_pairs _ _ (by simp)

@[simp] theorem State.watched_post (s : State) (t : Target) (v : List Word) : (s.post t v).watched = s.watched := State.watched_pairs _ _ (by simp)

@[simp] theorem State.watched_postWord (s : State) (o : Nat) (w : Word) : (s.postWord o w).watched = s.watched := State.watched_pairs _ _ (by simp)

@[simp] theorem State.watched_postCount (s : State) (o : Nat) (c : Half) : (s.postCount o c).watched = s.watched := State.watched_pairs _ _ (by simp)

@[simp] theorem State.watched_refreshAttn (s : State) : s.refreshAttn.watched = s.watched := State.watched_pairs _ _ (by simp)

@[simp] theorem State.watched_setEvent (s : State) (e : Event) : (s.setEvent e).watched = s.watched := State.watched_pairs _ _ (by simp)

@[simp] theorem State.watched_postEventWord (s : State) : s.postEventWord.watched = s.watched := State.watched_pairs _ _ (by simp)

@[simp] theorem State.watched_raise (s : State) (e : Event) : (s.raise e).watched = s.watched := State.watched_pairs _ _ (by simp)

@[simp] theorem State.watched_setQueue (s : State) (q : List FrameRec) : (s.setQueue q).watched = s.watched := State.watched_pairs _ _ (by simp)

@[simp] theorem State.watched_setWindow (s : State) (w : List Pos) : (s.setWindow w).watched = s.watched := State.watched_pairs _ _ (by simp)

@[simp] theorem State.watched_aim (s : State) : s.aim.watched = s.watched := State.watched_pairs _ _ (by simp)

@[simp] theorem State.watched_modSubm (s : State) (f : Submission → Submission) : (s.modSubm f).watched = s.watched := State.watched_pairs _ _ (by simp)

@[simp] theorem State.watched_modDist (s : State) (f : Dist → Dist) : (s.modDist f).watched = s.watched := State.watched_pairs _ _ (by simp)

@[simp] theorem State.watched_releaseAdvance (s : State) (p : Pair) : (s.releaseAdvance p).watched = s.watched := by
  unfold State.releaseAdvance
  split
  · rfl
  · rw [State.watched_postCount]; exact State.watched_modPair _ _ _ fun _ => rfl

@[simp] theorem State.watched_drainedNotice (s : State) (p : Pair) (b : Bool) : (s.drainedNotice p b).watched = s.watched := by
  unfold State.drainedNotice
  split
  · exact State.watched_modPair _ _ _ fun _ => rfl
  · rfl

@[simp] theorem State.watched_vacate (s : State) (p : Pair) (c : Nat) : (s.vacate p c).watched = s.watched := by
  unfold State.vacate; rw [State.watched_drainedNotice]; exact State.watched_modPair _ _ _ fun _ => rfl

@[simp] theorem State.watched_cellFree (s : State) (p : Pair) (c : Nat) : (s.cellFree p c).watched = s.watched := by
  simp [State.cellFree]

@[simp] theorem State.watched_freeUse (s : State) (p : Pair) (c : Nat) (u : Half) : (s.freeUse p c u).watched = s.watched := by
  unfold State.freeUse; (repeat' split) <;> simp

@[simp] theorem State.watched_passCell (s : State) (p : Pair) (c : Nat) (u : Half) : (s.passCell p c u).watched = s.watched := by
  unfold State.passCell
  (repeat' split) <;> (try simp) <;> (try rw [State.watched_modPair _ _ _ (by intro r; first | rfl | simp)])

@[simp] theorem State.watched_postRecord (s : State) (f : FrameRec) : (s.postRecord f).watched = s.watched := by
  unfold State.postRecord; (repeat' split) <;> simp

@[simp] theorem State.watched_postProducer (s : State) : s.postProducer.watched = s.watched := by
  unfold State.postProducer; (repeat' split) <;> simp

@[simp] theorem State.watched_takeFrame (s : State) (l : List FragEntry) : (s.takeFrame l).watched = s.watched := by
  unfold State.takeFrame; simp only []; (repeat' split) <;> simp [↓State.watched_reseq, ↓State.watched_deliv, State.watched_foldl]

@[simp] theorem State.watched_moveHead (s : State) (n : Nat) : (s.moveHead n).watched = s.watched := by
  unfold State.moveHead
  rw [State.watched_forPairs _ _ fun t p => State.watched_modPair _ _ _ fun r => by simp [PairRec.watch, PairRec.count]]
  rfl

@[simp] theorem State.watched_passLost (s : State) (n : Nat) : (s.passLost n).watched = s.watched := by
  unfold State.passLost; rw [State.watched_moveHead]; exact State.watched_bump s .lostSequence n

@[simp] theorem State.watched_passOrphan (s : State) (r : Landed) : (s.passOrphan r).watched = s.watched := by
  unfold State.passOrphan; (repeat' split) <;> simp

@[simp] theorem State.watched_discardHead (s : State) (r : Landed) (c : GCounter) : (s.discardHead r c).watched = s.watched := by
  unfold State.discardHead; rw [State.watched_moveHead]; exact (State.watched_bump (s.freeUse r.pair r.cell r.use) c 1).trans (by simp)

@[simp] theorem State.watched_handOff (s : State) (n : Nat) : (s.handOff n).watched = s.watched := by
  unfold State.handOff; rw [State.watched_moveHead]; exact (State.watched_bump (s.takeFrame _) .framesAssembled 1).trans (by simp)

@[simp] theorem State.watched_block (s : State) : s.block.watched = s.watched := by
  unfold State.block; (repeat' split) <;> simp [↓State.watched_reseq, ↓State.watched_deliv, ↓State.watched_path, ↓State.watched_rep]

@[simp] theorem State.watched_headRun (n : Nat) (s : State) : (State.headRun n s).watched = s.watched := by
  induction n generalizing s with
  | zero => rfl
  | succ n ih => unfold State.headRun; (repeat' split) <;> simp [ih]

@[simp] theorem State.watched_headProcess (s : State) : s.headProcess.watched = s.watched := by
  unfold State.headProcess; (repeat' split) <;> simp [↓State.watched_reseq, ↓State.watched_deliv, ↓State.watched_path, ↓State.watched_rep]

@[simp] theorem State.watched_settle (s : State) : s.settle.watched = s.watched := by
  unfold State.settle; (repeat' split) <;> simp

@[simp] theorem State.watched_declare (s : State) (n : Nat) : (s.declare n).watched = s.watched := by
  unfold State.declare; (repeat' split) <;> simp

@[simp] theorem State.watched_close (s : State) : s.close.watched = s.watched := by
  unfold State.close; simp only []; (repeat' split) <;> simp

@[simp] theorem State.watched_giveUpCell (s : State) (w : Work) : (s.giveUpCell w).watched = s.watched := by
  unfold State.giveUpCell
  rw [State.watched_modDist]
  split
  · rfl
  · exact State.watched_modPair _ _ _ fun _ => rfl

@[simp] theorem State.watched_endAbandoned (s : State) (w : Work) : (s.endAbandoned w).watched = s.watched := by
  unfold State.endAbandoned; (repeat' split) <;> simp

@[simp] theorem State.watched_abandonWork (s : State) (w : Work) : (s.abandonWork w).watched = s.watched := by
  unfold State.abandonWork; (repeat' split) <;> simp

@[simp] theorem State.watched_recheckWork (s : State) : s.recheckWork.watched = s.watched := by
  unfold State.recheckWork; (repeat' split) <;> simp

/-! ## Departures and changes of state (R57, R82, R165) -/

theorem State.watch_closeOnDeparture (s : State) (p q : Pair) :
    ((s.closeOnDeparture p).pair q).watch = ((s.modPair p fun r => { r with horizon := none }).pair q).watch := by
  apply State.watch_of_watched
  unfold State.closeOnDeparture
  simp only []
  split
  · rfl
  · simp

/-- The record a change of state leaves to a pair, in its supervised part (R156, R165). -/
def PairRec.changed (r : PairRec) (new : PairState) (reason : Reason) (statusDeadline : Time) : PairRec :=
  let x := (({ r with state := new, reason := reason } : PairRec).statusOver r.state new statusDeadline).bump .stateChange 1
  if r.state = .active then { x with credit := 0, horizon := none } else x

/-- What a change of state does to the pair that changes. -/
theorem State.watch_changeState_self (s : State) (p : Pair) (new : PairState) (reason : Reason) (h : (s.pair p).state ≠ new) :
    ((s.changeState p new reason).pair p).watch =
      ((s.pair p).changed new reason (s.now + s.prof.active.statusInterval)).watch := by
  unfold State.changeState PairRec.changed
  simp only [if_neg h]
  rw [State.watch_of_watched (State.watched_recheckWork _) p]
  split
  · rw [State.watch_closeOnDeparture, State.pair_modPair_self, State.pair_modPair_self, State.pair_congr (State.raise_pairs _ _),
      State.pair_modPair_self]
  · rw [State.pair_congr (State.raise_pairs _ _), State.pair_modPair_self]

/-- A change of state of one pair leaves the supervised part of the others. -/
theorem State.watch_changeState_other (s : State) (p q : Pair) (new : PairState) (reason : Reason) (h : q ≠ p) :
    ((s.changeState p new reason).pair q).watch = (s.pair q).watch := by
  unfold State.changeState
  simp only []
  split
  · rw [State.pair_modPair_ne _ _ _ _ h]
  · rw [State.watch_of_watched (State.watched_recheckWork _) q]
    split
    · rw [State.watch_closeOnDeparture, State.pair_modPair_ne _ _ _ _ h, State.pair_modPair_ne _ _ _ _ h,
        State.pair_congr (State.raise_pairs _ _), State.pair_modPair_ne _ _ _ _ h]
    · rw [State.pair_congr (State.raise_pairs _ _), State.pair_modPair_ne _ _ _ _ h]

/-- The fields of the record a change of state leaves. -/
theorem PairRec.changed_fields (r : PairRec) (new : PairState) (reason : Reason) (t : Time) :
    let y := r.changed new reason t
    y.state = new ∧ y.reason = reason ∧ y.silence = r.silence ∧ y.deadline = r.deadline ∧ y.entered = r.entered ∧
      y.recentErrors = r.recentErrors ∧ y.proving = r.proving ∧ y.flaps = r.flaps ∧ y.factor = r.factor ∧ y.lane = r.lane ∧
      y.alloc = r.alloc ∧ (r.state = .active → y.credit = 0 ∧ y.horizon = none) := by
  unfold PairRec.changed PairRec.statusOver PairRec.bump
  simp only []
  (repeat' split) <;> simp_all

/-- The counters of the record a change of state leaves. -/
theorem PairRec.changed_count (r : PairRec) (new : PairState) (reason : Reason) (t : Time) (c : PCounter) :
    (r.changed new reason t).count c = if c = .stateChange then satAdd32 (r.count c) 1 else r.count c := by
  have h : (r.changed new reason t).count c = (r.bump .stateChange 1).count c := by
    unfold PairRec.changed PairRec.statusOver PairRec.bump PairRec.count
    simp only []
    (repeat' split) <;> rfl
  rw [h]
  split
  · next e => rw [e, PairRec.count_bump_self]
  · next e => exact PairRec.count_bump_ne r _ _ _ e

/-- Forgetting a learned lane changes the lane at most. -/
theorem PairRec.forgetLearned_lane (r : PairRec) : ∃ l, r.forgetLearned = { r with lane := l } := by
  unfold PairRec.forgetLearned
  (repeat' split)
  · exact ⟨none, rfl⟩
  · exact ⟨r.lane, rfl⟩
  · exact ⟨r.lane, rfl⟩

/-- The record an entry into DOWN leaves from another state, but for its lane (R168). -/
theorem State.watch_enterDown (s : State) (p : Pair) (cause : Reason) (failed : Bool) (h : (s.pair p).state ≠ .down) :
    let reason := if (s.pair p).alloc.count = 0 then Reason.noCells else cause
    let y := ((s.pair p).changed .down reason (s.now + s.prof.active.statusInterval)).watch
    ∃ l, ((s.enterDown p cause failed).pair p).watch =
      { y with silence := none, entered := none, lane := l,
               deadline := if failed then some (s.now + s.prof.active.retryHoldoff) else none } := by
  intro reason y
  have hw := s.watch_changeState_self p .down reason h
  unfold State.enterDown
  simp only []
  split
  · obtain ⟨l, hl⟩ := PairRec.forgetLearned_lane
      { ((s.changeState p .down reason).pair p) with
        silence := none, entered := none,
        deadline := if failed then some (s.now + s.prof.active.retryHoldoff) else none }
    refine ⟨l, ?_⟩
    rw [State.forgetLearned, State.pair_modPair_self, State.pair_modPair_self, hl]
    simp only [y, ← hw]
    rfl
  · refine ⟨y.lane, ?_⟩
    rw [State.pair_modPair_self]
    simp only [y, ← hw]
    rfl

end Sys2Proof.Machine
end

