-- ==== Sys2Proof/Laws/Taking.lean ====
section
/-! SUPPORT. How the rows of the link reach the operations behind them: a transaction that is taken, an answer that is acted on. -/

namespace Sys2Proof.Machine

theorem crossesBlock_iff (addr : Word) (n : Nat) : crossesBlock addr n = true ↔ spansBlocks addr n := by
  simp [crossesBlock, spansBlocks]

theorem crossesBlock_false (addr : Word) (n : Nat) (h : ¬ spansBlocks addr n) : crossesBlock addr n = false := by
  rw [← crossesBlock_iff] at h; simpa using h

/-! ## Transactions taken from the link -/

theorem exec_read_taken (s : State) (label : Label) (tag : Tag) (addr : Word) (words : Nat) (h : s.takes label)
    (ok : transactionOk addr words = true) : exec (.read label tag addr words) s = .next (s.takeRead label tag addr words) := by
  obtain ⟨h1, h2⟩ := h
  simp [exec, execRead, ok, h1, h2]

theorem exec_write_taken (s : State) (label : Label) (tag : Tag) (addr : Word) (data : List WriteWord) (h : s.takes label)
    (ok : transactionOk addr data.length = true) :
    exec (.write label tag addr data) s = .next (s.takeWrite label tag addr data) := by
  obtain ⟨h1, h2⟩ := h
  simp [exec, execWrite, ok, h1, h2]

theorem exec_lockedRead_taken (s : State) (label : Label) (tag : Tag) (addr : Word) (words : Nat) (h : s.takes label)
    (ok : transactionOk addr words = true) :
    exec (.lockedRead label tag addr words) s = .next (s.takeLockedRead label tag addr words) := by
  obtain ⟨h1, h2⟩ := h
  simp [exec, execLockedRead, ok, h1, h2]

theorem exec_lockedWrite_taken (s : State) (label : Label) (tag : Tag) (addr : Word) (data : List WriteWord) (h : s.takes label)
    (ok : transactionOk addr data.length = true) :
    exec (.lockedWrite label tag addr data) s = .next (s.takeLockedWrite label tag addr data) := by
  obtain ⟨h1, h2⟩ := h
  simp [exec, execLockedWrite, ok, h1, h2]

/-- A written word is stray exactly in the Delivery Window (R9). -/
theorem treat_stray_iff (a : Image) (tag : Tag) (w : WriteWord) (c : WordClass) :
    a.treat tag w c = .stray ↔ c.isWindow = true := by
  cases c <;> simp [Image.treat, WordClass.isWindow, snooped] <;> (repeat' split) <;> simp

/-- Some word of a WRITE is stray exactly when some word lies in the Delivery Window (R9). -/
theorem anyStray_eq (s : State) (tag : Tag) (addr : Word) (data : List WriteWord) :
    (s.treatments tag addr data).any (· == .stray) = (s.classes addr data.length).any WordClass.isWindow := by
  unfold State.treatments
  have hl : data.length = (s.classes addr data.length).length := by simp [State.classes, wordAddrs]
  generalize s.classes addr data.length = cs at hl
  induction data generalizing cs with
  | nil => cases cs <;> simp_all
  | cons w ws ih =>
    cases cs with
    | nil => simp at hl
    | cons c cs =>
      simp only [List.zip_cons_cons, List.map_cons, List.any_cons]
      rw [ih cs (by simpa using hl)]
      congr 1
      rw [Bool.eq_iff_iff]; simp [treat_stray_iff]

/-! ## Answers acted on -/

/-- An answer to an open transaction of an accepted issuer is that of answerOpen. -/
theorem State.answer_awaited (s : State) (f : Issuer → Bool) (d : Label) (t : DownTx) (i : Issuer) (a : Answer)
    (h : s.awaits d t i) (hf : f i = true) : s.answer f d a = s.answerOpen d t a := by
  obtain ⟨⟨h1, h2⟩, h3, h4, h5⟩ := h
  simp [State.answer, h1, h2, h3, h4, h5, hf]

/-- The response limit's expiry of an awaited transaction. -/
theorem State.limitExpiry_awaited (s : State) (d : Label) (us : Nat) (t : DownTx) (i : Issuer) (h : s.awaits d t i) :
    s.limitExpiry d us = if t.issuedAt + t.limit ≤ us then s.timeOut d t else s := by
  obtain ⟨_, h3, h4, _⟩ := h
  simp [State.limitExpiry, h3, h4]

/-- A forwarded WRITE answered OK: the answer goes upstream and the write is handed on (R2, R11). -/
theorem exec_memoryAnswer_write (s : State) (d : Label) (t : DownTx) (u : UpTx) (data : List Word) (h : s.awaitsWrite d t u) :
    exec (.memoryAnswer d (.ok data)) s = .next (u.handOn.foldl State.handOn (s.writeAnswered d u)) := by
  obtain ⟨h1, h2, h3, h4⟩ := h
  have hi : t.issuer = .forward u.label := h1.2.2.2
  have hu : (s.setDown d none).upTx u.label = some u := h2
  have he : exec (.memoryAnswer d (.ok data)) s = s.answerOpen d t (.ok data) := s.answer_awaited Issuer.isForward d t _ _ h1 rfl
  rw [he]
  simp [State.answerOpen, DownTx.fits, h3, State.succeed, hi, State.forwardOk, hu, h4, TxKind.isWrite, State.writeAnswered]

end Sys2Proof.Machine
end

