-- ==== Sys2Proof/Tests/Slice0.lean ====
section
/-! SUPPORT. The session's own tests: terms the operand check refuses, states that meet the premises of each statement, and one step of
some commands. -/

namespace Sys2Proof.Tests

-- One test after the other: each waits for the kernel, and many waiting at once take more memory than a check allows.
set_option Elab.async false

open Sys2Proof.Machine

/-! ## Small states -/

/-- The state right after reset with the quiet period passed. -/
def up : State := { State.reset with path := { State.reset.path with quiet := false } }

/-- The default profile with some fields set. -/
def profile (fields : List (Nat × Word)) : Image := fields.foldl (fun a x => a.setField x.1 x.2) defaultImage

/-- A part that is up, with a profile active. -/
def with_ (fields : List (Nat × Word)) : State :=
  { up with prof := { up.prof with image := profile fields, active := profile fields } }

/-- Every aperture placed; tag 1 is the control requester and tag 2 the transceiver of pair 0, which is enabled. -/
def placed : List (Nat × Word) :=
  [(1, 1), (8, 0x10000), (9, 0x20000), (10, 0x30000), (11, 0x40000), (12, 0x90000), (14, 0xA0000), (64, 1), (65, 2),
   (66, 0xB0000), (68, 4)]

def board : State := with_ placed

/-- A transaction open downstream. -/
def sent (kind : TxKind) (count : Nat) (i : Issuer) : DownTx :=
  { kind := kind, addr := 0, count := count, tag := 0, data := [], issuer := i, issuedAt := 0, limit := 32, timedOut := false }

def State.sends (s : State) (t : DownTx) : State := s.setDown 3 (some t)

/-- A transaction open upstream under label 5. -/
def opened (kind : TxKind) (count : Nat) (handOn : List HandOn) : UpTx :=
  { waitingTx 5 1 kind 0 count [] with handOn := handOn, stage := .issued }

/-- A forwarded write on its way, that will hand something on. -/
def writing (s : State) (h : List HandOn) : State := State.sends (s.setUp [opened .write 1 h]) (sent .write 1 (.forward 5))

/-- A part with pair 0 changed. -/
def pair0 (s : State) (f : PairRec → PairRec) : State := s.modPair 0 f

/-- The window with some positions at the head. -/
def head (s : State) (ps : List Pos) : State := s.setWindow ps

/-- A fragment of 64 bytes landed on pair 0 in cell 0 with use number 0. -/
def fragment (s e : Bool) : Landed := { pair := 0, cell := 0, use := 0, length := 64, s := s, e := e, time := 0 }

/-- A frame of one fragment of 64 bytes in cell 0 of pair 0. -/
def frame0 : FrameRec :=
  { count := 0, generation := 1, firstSeq := 0, length := 64, mask := 1, overwritten := false,
    fragments := [{ pair := 0, cell := 0, use := 0, length := 64, isVoid := false }], note := none, pins := 0,
    retiring := false }

/-- A part whose Delivery Queue holds one frame. -/
def holding (f : FrameRec) : State :=
  { board with deliv := { queue := [f], producer := 1, consumer := 0, oldest := 0, roomNotices := 0 } }

/-- A Transmit Queue entry of 64 bytes. -/
def entry : TxEntry :=
  { number := 0, buffer := 0xC0000, length := 64, cls := .bulk, hostTag := 9, complAddr := 0x9000C, fetchTime := 0, bytesCut := 0,
    published := 0, cutting := none, releaseAs := none }

def queued (s : State) (q : List TxEntry) : State := s.modSubm fun u => { u with queue := q }

def cut0 : CutFrame := { buffer := 0xC0000, length := 64, number := 0, bytesCut := 0, fragmentsCut := 0 }

/-- A part whose pair 0 is ACTIVE, accepted by the peer and allocated four cells, with a frame being cut. -/
def sender : State :=
  let s := queued board [{ entry with cutting := some 0 }]
  let p := pair0 s fun r => { r with state := .active, alloc := { first := 0, count := 4 }, credit := 64 }
  { (p.modDist fun x => { x with generation := some 1, frame := some cut0, poolBase := some 0xA0000, poolSize := 16 }) with
    sup := { p.sup with peerMap := 1 } }

def fragment0 : Frag := { sequence := 0, first := 0, length := 64, s := true, e := true, given := 0 }

def work (k : WorkKind) (phase : Phase) : Work :=
  { kind := k, pair := 0, cellBase := 0xA0000, words := [], source := 0xC0000, done := 0, phase := phase, abandoned := false,
    detached := false, spoilt := false }

def copying (w : Work) (t : DownTx) : State := State.sends (sender.modDist fun x => { x with copier := some w }) t

/-- A test of a step's next state; false when the step stops. -/
def after (o : Host.Outcome State Fault Refusal) (f : State → Bool) : Bool :=
  match o with
  | .next t => f t
  | _ => false

def isRefused : Host.Outcome State Fault Refusal → Bool
  | .refused .malformedTransaction => true
  | _ => false

def isFault : Host.Outcome State Fault Refusal → Bool
  | .fault .malformedAnswer => true
  | _ => false

/-! ## The operand check refuses ill-formed commands -/

theorem test_refused_unaligned_address :
    (Instr.read 0 0 2 1).wellFormed = false ∧ (Instr.write 0 0 1 [⟨0, 15⟩]).wellFormed = false ∧
      (Instr.lockedRead 0 0 3 1).wellFormed = false ∧ (Instr.lockedWrite 0 0 2 [⟨0, 15⟩]).wellFormed = false := by decide

theorem test_refused_no_words :
    (Instr.read 0 0 0 0).wellFormed = false ∧ (Instr.write 0 0 0 []).wellFormed = false ∧
      (Instr.lockedRead 0 0 0 0).wellFormed = false ∧ (Instr.lockedWrite 0 0 0 []).wellFormed = false := by decide

theorem test_refused_seventeen_words :
    (Instr.read 0 0 0 17).wellFormed = false ∧ (Instr.write 0 0 0 (List.replicate 17 ⟨0, 15⟩)).wellFormed = false ∧
      (Instr.lockedRead 0 0 0 17).wellFormed = false ∧
      (Instr.lockedWrite 0 0 0 (List.replicate 17 ⟨0, 15⟩)).wellFormed = false := by decide

theorem test_accepted_sixteen_words :
    (Instr.read 0 0 4 16).wellFormed = true ∧ (Instr.write 0 0 4 (List.replicate 16 ⟨0, 15⟩)).wellFormed = true ∧
      (Instr.lockedRead 0 0 4 16).wellFormed = true ∧
      (Instr.lockedWrite 0 0 4 (List.replicate 16 ⟨0, 15⟩)).wellFormed = true := by decide

theorem test_refused_answers_of_seventeen_words :
    let a := Answer.ok (List.replicate 17 0)
    (Instr.memoryAnswer 0 a).wellFormed = false ∧ (Instr.pieceEnd 0 a).wellFormed = false ∧
      (Instr.fetchAnswer 0 a).wellFormed = false ∧ (Instr.copierReadAnswer 0 a).wellFormed = false ∧
      (Instr.copierWriteAnswer 0 a).wellFormed = false ∧ (Instr.pointerWriteAnswer 0 a).wellFormed = false ∧
      (Instr.eventWordWriteAnswer 0 a).wellFormed = false ∧ (Instr.publicationWriteAnswer 0 a).wellFormed = false := by decide

theorem test_accepted_answers :
    (Instr.memoryAnswer 0 (.ok (List.replicate 16 0))).wellFormed = true ∧ (Instr.pieceEnd 0 .error).wellFormed = true := by decide

/-! ## Premises of the statements: the queue, reset and the quiet period -/

theorem test_StepRunsTheFrontCommand :
    after (step { up with pending := [.millisecondTick, .referenceAcquired] }) (fun t =>
      t.clock.time == 1 && t.clock.source == .internal && t.pending == [.referenceAcquired]) = true := by decide +kernel

theorem test_QueueIsOnlyTakenFrom_premises :
    State.reset.pending = [] ∧ ∃ t, exec .millisecondTick { up with pending := [.fullReset] } = .next t :=
  ⟨rfl, _, rfl⟩

def low (surgeN : Bool) : State := { up with pins := { up.pins with resetN := false, surgeN := surgeN } }

theorem test_ReleaseAndQuietPeriod_premises :
    ((low true).pins.resetN = false ∧ (low true).pins.surgeN = true) ∧
      ((low false).pins.resetN = false ∧ (low false).pins.surgeN = false ∧ (low false).surge.stop = false ∧
        (low false).prof.active.surgeEnable = false) ∧
      (State.reset.pins.resetN = true ∧ State.reset.path.quiet = true ∧ State.reset.path.quietFrom + 32 ≤ 32) ∧
      31 < State.reset.path.quietFrom + 32 := by decide +kernel

theorem test_NothingIsTakenInResetOrQuiet_premises :
    ((low true).pins.resetN = false ∧ Instr.millisecondTick.wellFormed = true ∧ Instr.millisecondTick ≠ .fullReset ∧
        (∀ us, Instr.millisecondTick ≠ .resetRelease us) ∧ Instr.millisecondTick ≠ .surgeFallingEdge ∧
        Instr.millisecondTick ≠ .surgeRisingEdge) ∧
      State.reset.path.quiet = true :=
  ⟨⟨by decide +kernel, rfl, by decide, (fun _ h => nomatch h), by decide, by decide⟩, by decide +kernel⟩

theorem test_full_reset_and_release :
    after (exec .fullReset { board with pins := { board.pins with straps := 7 } }) (fun t =>
      !t.pins.resetN && t.pins.straps == 7 && t.prof.active.reportBase == none) = true ∧
      after (exec (.resetRelease 9) (low false)) (fun t =>
        t.path.quiet && t.path.quietFrom == 9 && t.surge.flag && !t.surge.stop && t.count .surgeEdge == 1) = true ∧
      after (exec (.downstreamQuietEnd 31) State.reset) (fun t => t.path.quiet) = true ∧
      after (exec (.downstreamQuietEnd 32) State.reset) (fun t => !t.path.quiet) = true := by decide +kernel

/-! ## Premises: taking transactions -/

/-- Eight reads open, under the eight labels. -/
def full : State := up.setUp ([0, 1, 2, 3, 4, 5, 6, 7].map fun l => waitingTx l 0 .read 0 1 [])

theorem test_NoRoomLeavesTransactionOnLink_premises :
    8 ≤ full.path.up.length ∧ (∃ t ∈ (up.setUp [opened .read 1 []]).path.up, t.label = 5) ∧ transactionOk 0 16 = true ∧
      transactionOk 4 [WriteWord.mk 0 15].length = true := by decide +kernel

theorem test_MalformedOperandsStopByName_premises :
    isRefused (exec (.read 0 0 2 1) up) = true ∧ isRefused (exec (.lockedRead 0 0 0 0) up) = true ∧
      isRefused (exec (.write 0 0 0 (List.replicate 17 ⟨0, 15⟩)) up) = true ∧ isRefused (exec (.lockedWrite 0 0 0 []) up) = true := by
  decide +kernel

theorem test_MalformedOperandsStopByName_faults :
    isFault (exec (.memoryAnswer 3 (.ok [])) (State.sends up (sent .read 1 (.forward 5)))) = true ∧
      isFault (exec (.memoryAnswer 3 (.ok [1, 2])) (State.sends up (sent .lockedRead 1 (.forward 5)))) = true ∧
      isFault (exec (.pieceEnd 3 (.ok [])) (State.sends up (sent .read 1 (.piece 5 true)))) = true ∧
      isFault (exec (.fetchAnswer 3 (.ok [1, 2, 3, 4])) (State.sends up (sent .read 3 .fetch))) = true ∧
      isFault (exec (.copierReadAnswer 3 (.ok [1])) (State.sends up (sent .read 2 .copierRead))) = true := by decide +kernel

theorem test_BurstCrossingRefused_premises :
    up.takes 5 ∧ transactionOk 1020 2 = true ∧ spansBlocks 1020 2 ∧ ¬ spansBlocks 1020 1 ∧ ¬ spansBlocks 960 16 := by
  simp only [State.takes, spansBlocks]; decide +kernel

/-- The board with a publication due. -/
def dueBoard : State := board.modRep fun r => { r with pubState := .due }

theorem test_ReadsForwardedOrHeld_premises :
    (board.takes 5 ∧ ¬ spansBlocks 0x10010 4) ∧ dueBoard.takes 5 ∧
      (∀ c ∈ board.classes 0x10010 4, c.isWindow = false) ∧ (board.classes 0x1000C 1).any WordClass.inRange = false ∧
      (board.classes 0x10010 1).any WordClass.inRange = true ∧ (board.classes 0x1000C 2).any WordClass.inRange = true ∧
      board.rep.pubState = .idle ∧ dueBoard.rep.pubState ≠ .idle := by
  simp only [State.takes, spansBlocks]; decide +kernel

theorem test_read_forwarded_and_held :
    after (exec (.read 5 1 0x10000 4) dueBoard) (fun t =>
      t.path.up.map (fun x => (x.stage, x.eventRead, x.pubRange)) == [(.waiting, true, false)]) = true ∧
      after (exec (.read 5 1 0x10010 4) dueBoard) (fun t =>
        t.path.up.map (fun x => (x.stage, x.eventRead, x.pubRange)) == [(.held, false, true)] && t.count .heldRead == 1) = true := by
  decide +kernel

def voidFrame : FrameRec :=
  { frame0 with fragments := [{ pair := 0, cell := 0, use := 0, length := 64, isVoid := true }], overwritten := true }

theorem test_WindowReadsAnsweredAtOnce_premises :
    (board.takes 5 ∧ ¬ spansBlocks 0x40000 1) ∧ (board.classes 0x40000 1 = [.window 0] ∧ board.slotFrame 0 = none) ∧
      ((holding { frame0 with retiring := true }).slotFrame 0 = some { frame0 with retiring := true } ∧
        (holding { frame0 with retiring := true }).classes 0x40000 1 = [.window 0]) ∧
      ((holding frame0).takes 5 ∧ (holding frame0).slotFrame (64 / 4096) = some frame0 ∧ frame0.length ≤ 64 % 4096 ∧
        (holding frame0).classes 0x40040 1 = [.window 64]) ∧
      ((holding voidFrame).slotFrame (60 / 4096) = some voidFrame ∧ 60 % 4096 < voidFrame.length ∧
        ∃ x ∈ voidFrame.touched (60 % 4096) (60 % 4096 + 4 * 1), x.2.isVoid = true) := by
  simp only [State.takes, spansBlocks]; decide +kernel

theorem test_WindowReadAccepted_premises :
    ((holding frame0).takes 5 ∧ transactionOk 0x4003C 2 = true ∧ ¬ spansBlocks 0x4003C 2) ∧
      (holding frame0).classes 0x4003C 2 = [.window 60, .window 64] ∧ (holding frame0).slotFrame (60 / 4096) = some frame0 ∧
      frame0.retiring = false ∧ 60 % 4096 < frame0.length ∧
      ∀ x ∈ frame0.touched (60 % 4096) (60 % 4096 + 4 * 2), x.2.isVoid = false := by
  simp only [State.takes, spansBlocks]; decide +kernel

theorem test_window_read_becomes_one_piece :
    after (exec (.read 5 1 0x4003C 2) (holding frame0)) (fun t =>
      t.path.up.map UpTx.stage ==
        [.redirected { frame := 0, start := 60, length := 64, pieces := [{ addr := 0xB0044, count := 1, stage := .waiting }],
                       faulted := false }] &&
      t.deliv.queue.map FrameRec.pins == [1] && t.count .redirectedRead == 1) = true := by decide +kernel

def oneWord : List WriteWord := [⟨0x12345678, 15⟩]
def partWord : List WriteWord := [⟨0x12345678, 3⟩]

theorem test_WritesForwarded_premises :
    (board.takes 5 ∧ ¬ spansBlocks 0x20000 1) ∧ (∀ c ∈ board.classes 0x20000 1, c.isWindow = false) ∧
      board.prof.active.guardOn = false ∧ raisesForeign oneWord (board.treatments 1 0x20000 oneWord) = false ∧
      raisesForeign oneWord (board.treatments 7 0x20000 oneWord) = true ∧
      raisesForeign partWord (board.treatments 1 0x20000 partWord) = true := by
  simp only [State.takes, spansBlocks]; decide +kernel

theorem test_write_taken :
    after (exec (.write 5 1 0x20000 oneWord) board) (fun t =>
      t.path.up.map (fun x => (x.watched, x.handOn)) == [(true, [.submissionProducer 0x5678])] && t.rep.events == 0) = true ∧
      after (exec (.write 5 2 0xB0404 oneWord) board) (fun t =>
        t.path.up.map (fun x => (x.watched, x.handOn)) == [(true, [.ringWrite 0 .owner 1 4 [0x12345678]])]) = true ∧
      after (exec (.write 5 7 0 oneWord) board) (fun t =>
        t.path.up.map (fun x => (x.watched, x.handOn)) == [(true, [])] && t.count .foreignWrite == 1 && t.rep.events == 0x1000) = true := by
  decide +kernel

/-- The board with guard mode on. -/
def guarded : State := with_ ((2, 1) :: placed)

theorem test_GuardedWriteRefused_premises :
    (guarded.takes 5 ∧ ¬ spansBlocks 0xB0000 1) ∧ (∀ c ∈ guarded.classes 0xB0000 1, c.isWindow = false) ∧
      guarded.prof.active.guardOn = true ∧ ∃ t ∈ guarded.treatments 7 0xB0000 oneWord, t.guarded = true := by
  simp only [State.takes, spansBlocks]; decide +kernel

theorem test_WindowWritesAndLockedKindsStray_premises :
    (board.takes 5 ∧ ¬ spansBlocks 0x7FFFC 1) ∧ (∃ c ∈ board.classes 0x7FFFC 1, c.isWindow = true) ∧
      ∃ c ∈ board.classes 0x40000 1, c.isWindow = true := by
  simp only [State.takes, spansBlocks]; decide +kernel

def lock0 : Lock := { owner := 1, addr := 0x1000, start := 0, limit := 16 }
def locked : State := board.setLock (some lock0)

theorem test_LockedKindsTaken_premises :
    (board.takes 5 ∧ locked.takes 5 ∧ ¬ spansBlocks 0x1000 1) ∧ (∀ c ∈ board.classes 0x1000 1, c = .outside) ∧
      board.path.lock = none ∧ (locked.path.lock = some lock0 ∧ lock0.owner = 1) ∧
      (∃ c ∈ board.classes 0xFFC 1, c ≠ .outside) ∧ (∀ c ∈ board.classes 0xFFC 1, c.isWindow = false) := by
  simp only [State.takes, spansBlocks]; decide +kernel

/-! ## Premises: grants, locks and answers -/

def waiting1 (kind : TxKind) : UpTx := waitingTx 5 1 kind 0x1000 1 []

def posted : State := board.post (.countWord 16) [0]

theorem test_GrantIssuesOneTransaction_premises :
    ((board.setUp [waiting1 .read]).linked ∧ (board.setUp [waiting1 .read]).downTx 3 = none ∧
        (board.setUp [waiting1 .read]).grantee = some .passThrough) ∧
      (posted.linked ∧ posted.downTx 3 = none ∧ posted.grantee = some .pointerWriter ∧
        posted.path.pointer = [{ target := .countWord 16, value := [0] }] ∧ posted.targetAddr (.countWord 16) = some 0x20010) ∧
      ((up.post (.countWord 16) [0]).grantee = some .pointerWriter ∧
        (up.post (.countWord 16) [0]).path.pointer = [{ target := .countWord 16, value := [0] }] ∧
        (up.post (.countWord 16) [0]).targetAddr (.countWord 16) = none) := by
  simp only [State.linked]; decide +kernel

theorem test_grant_of_a_pointer_write :
    after (exec (.arbiterGrant 3 70) posted) (fun t =>
      (t.downTx 3).map (fun x => (x.addr, x.issuedAt, x.limit, x.count)) == some (0x20010, 70, 32, 1) && t.path.pointer.isEmpty &&
        t.path.turn == .pointerWriter) = true := by decide +kernel

def fetchReady : State := board.modSubm fun u => { u with fetch := some { number := 0, slot := 0x90000, issued := false } }
def publisher : State := board.modRep fun r => { r with pubWrite := some { index := 1, data := [7], issued := false } }
def twoPieces (first second : PieceStage) : Redirect :=
  { frame := 0, start := 0, length := 64, faulted := false
    pieces := [{ addr := 0xB0008, count := 1, stage := first }, { addr := 0xB0408, count := 2, stage := second }] }
def redirected (r : Redirect) : State := (holding frame0).setUp [{ waiting1 .read with stage := .redirected r }]

/-- The address, the word count and the issuer a grant under label 3 goes out with. -/
def granted (s : State) : Option (Word × Nat × Issuer) :=
  match exec (.arbiterGrant 3 0) s with
  | .next t => (t.downTx 3).map fun x => (x.addr, x.count, x.issuer)
  | _ => none

theorem test_GrantIssuesOneTransaction_internal_premises :
    let reading := sender.modDist fun x => { x with copier := some (work (.data fragment0) .toRead) }
    let storing := sender.modDist fun x => { x with copier := some (work (.data fragment0) (.toWrite [1, 2])) }
    (reading.grantee = some .copier ∧ granted reading = some (0xC0000, 14, .copierRead)) ∧
      (storing.grantee = some .copier ∧ granted storing = some (0xA0000, 2, .copierWrite)) ∧
      (fetchReady.grantee = some .submissionFetch ∧ granted fetchReady = some (0x90000, 3, .fetch)) ∧
      (publisher.grantee = some .reportPublisher ∧ granted publisher = some (0x40, 1, .publisher)) := by decide +kernel

theorem test_GrantIssuesOneTransaction_piece_premises :
    ((redirected (twoPieces .waiting .later)).grantee = some .passThrough ∧
        granted (redirected (twoPieces .waiting .later)) = some (0xB0008, 1, .piece 5 false)) ∧
      ((redirected (twoPieces .issued .waiting)).grantee = some .passThrough ∧
        granted (redirected (twoPieces .issued .waiting)) = some (0xB0408, 2, .piece 5 true)) := by decide +kernel

def streaked : State := (posted.setUp [waiting1 .read])

theorem test_ArbitrationChoice_premises :
    (streaked.prof.active.roundRobin = false ∧ streaked.passRequest.isSome = true ∧ streaked.path.streak ≠ 8 ∧
        streaked.internalChoice = some .pointerWriter) ∧
      (board.setUp [waiting1 .read]).internalChoice = none ∧
      (State.grantee { streaked with path := { streaked.path with streak := 8 } } = some .pointerWriter) ∧
      (posted.passRequest = none ∧ posted.grantee = some .pointerWriter) ∧
      (with_ ((3, 2) :: placed)).prof.active.roundRobin = true := by decide +kernel

def lockReady (kind : TxKind) : State := (board.setUp [waiting1 kind])

theorem test_LockOpensAndClosesAtGrants_premises :
    (∀ k ∈ [TxKind.lockedRead, .read, .write], (lockReady k).linked ∧ (lockReady k).downTx 3 = none ∧
        (lockReady k).grantee = some .passThrough ∧ (lockReady k).passRequest = some (waiting1 k) ∧ (waiting1 k).stage = .waiting ∧
        (lockReady k).path.lock = none) ∧
      ∀ k ∈ [TxKind.read, .lockedWrite], ((lockReady k).setLock (some lock0)).grantee = some .passThrough ∧
        ((lockReady k).setLock (some lock0)).passRequest = some (waiting1 k) ∧ (waiting1 k).addr = lock0.addr := by
  simp only [State.linked]; decide +kernel

theorem test_LockLimitBreaksTheLock_premises :
    locked.pins.resetN = true ∧ locked.path.lock = some lock0 ∧ lock0.start + lock0.limit ≤ 16 ∧ 15 < lock0.start + lock0.limit := by
  decide +kernel

def reading (eventRead : Bool) : State :=
  State.sends (board.setUp [{ opened .read 1 [] with eventRead := eventRead }]) (sent .read 1 (.forward 5))

theorem test_ForwardedAnswersReturned_premises :
    (∀ b, (reading b).awaits 3 (sent .read 1 (.forward 5)) (.forward 5) ∧
        (reading b).upTx 5 = some { opened .read 1 [] with eventRead := b }) ∧
      (writing board []).awaits 3 (sent .write 1 (.forward 5)) (.forward 5) ∧
      (writing board []).upTx 5 = some (opened .write 1 []) ∧ (opened .write 1 []).handOn = [] := by
  simp only [State.awaits, State.linked]; decide +kernel

theorem test_event_word_read_clears :
    after (exec (.memoryAnswer 3 (.ok [0x00100000]))
      { (reading true) with rep := { (reading true).rep with events := 0x30, fresh := 0x20 } }) (fun t =>
        t.rep.events == 0x20 && t.count .eventClear == 1 && t.path.up.isEmpty && (t.downTx 3).isNone &&
          t.responses.map Response.data == [[0x00100000]]) = true := by decide +kernel

theorem test_ForwardedFailures_premises :
    ((writing board []).awaits 3 (sent .write 1 (.forward 5)) (.forward 5) ∧
        (writing board []).upTx 5 = some (opened .write 1 []) ∧ (writing board []).path.lock = none) ∧
      (let t := sent .lockedRead 1 (.forward 5)
       let l : Lock := { owner := 0, addr := 0, start := 0, limit := 16 }
       let s := (State.sends (board.setUp [opened .lockedRead 1 []]) t).setLock (some l)
       s.awaits 3 t (.forward 5) ∧ s.upTx 5 = some (opened .lockedRead 1 []) ∧ s.path.lock = some l ∧ t.kind = .lockedRead ∧
         l.owner = t.tag ∧ l.addr = t.addr ∧ l.start = t.issuedAt ∧ after (exec (.memoryAnswer 3 .error) s) (fun u => u.path.lock.isNone) = true) ∧
      (sent .write 1 (.forward 5)).issuedAt + (sent .write 1 (.forward 5)).limit ≤ 32 ∧
      31 < (sent .write 1 (.forward 5)).issuedAt + (sent .write 1 (.forward 5)).limit := by
  simp only [State.awaits, State.linked]; decide +kernel

theorem test_LateAnswersDiscarded_premises :
    (board.linked ∧ board.downTx 3 = none) ∧
      (State.sends board { (sent .read 1 (.forward 5)) with timedOut := true }).downTx 3 =
        some { (sent .read 1 (.forward 5)) with timedOut := true } := by
  simp only [State.linked]; decide +kernel

/-! ## Premises: hand-on of watched writes -/

theorem test_awaitsWrite_premises (h : List HandOn) :
    (writing board h).awaitsWrite 3 (sent .write 1 (.forward 5)) (opened .write 1 h) ∧ (opened .write 1 h).handOn = h := by
  refine ⟨⟨⟨⟨rfl, rfl⟩, rfl, rfl, rfl⟩, rfl, rfl, rfl⟩, rfl⟩

/-- Pair 0 with two cells published. -/
def published2 : State := pair0 board fun r => { r with fill := 2, produced := 2 }

theorem test_TransmitConsumerCountTaken_premises :
    distance 2 (published2.pair 0).consumed ≤ distance (published2.pair 0).produced (published2.pair 0).consumed ∧
      distance (published2.pair 0).produced (published2.pair 0).consumed < distance 3 (published2.pair 0).consumed ∧
      after (exec (.memoryAnswer 3 (.ok [])) (writing published2 [.transmitConsumer 0 2])) (fun t => (t.pair 0).consumed == 2) = true ∧
      after (exec (.memoryAnswer 3 (.ok [])) (writing published2 [.transmitConsumer 0 3])) (fun t =>
        (t.pair 0).consumed == 0 && (t.pair 0).count .badTxConsumer == 1) = true := by decide +kernel

theorem test_DeliveryConsumerCountTaken_premises :
    distance (holding frame0).deliv.producer (holding frame0).deliv.consumer < distance 2 (holding frame0).deliv.consumer ∧
      distance 0 (holding frame0).deliv.consumer = 0 ∧ distance 1 (holding frame0).deliv.consumer ≠ 0 ∧
      distance 1 (holding frame0).deliv.consumer ≤ distance (holding frame0).deliv.producer (holding frame0).deliv.consumer ∧
      after (exec (.memoryAnswer 3 (.ok [])) (writing (holding frame0) [.deliveryConsumer 1])) (fun t =>
        t.deliv.queue.isEmpty && t.deliv.oldest == 1 && t.deliv.roomNotices == 1) = true := by decide +kernel

/-- A Submission Ring of 8 records in use. -/
def ringed : State := board.modSubm fun u => { u with ring := some { base := 0x90000, size := 8 } }

theorem test_SubmissionProducerCountTaken_premises :
    distance 8 ringed.subm.produced ≤ ringed.subm.room ∧ ringed.subm.room < distance 9 ringed.subm.produced := by decide +kernel

theorem test_ProfileWordsCaptured_premises : ∀ x ∈ [((4 : Nat), (20 : Word)), (1023, 1)], x.1 ≠ 0 := by decide

theorem test_CommitsWaitOrAreRejected_premises :
    byteOf 0x00070200 2 = 2 ∧ (byteOf 0x00070000 2 ≠ 1 ∧ byteOf 0x00070000 2 ≠ 2) ∧ byteOf 0x00070300 2 ≠ 1 ∧
      byteOf 0x00070100 2 = 1 ∧ ((profile [(4, 0)]).setField 0 0x00070100).rangeFault = some 4 := by decide +kernel

/-- Pair 0 DOWN with four cells, cell 0 HELD with use number 0. -/
def heldCell : State :=
  pair0 board fun r => { r with state := .down, cells := [.held 0 .window, .free, .free, .free], landed := 1 }

/-- A profile that places the Count Block over the Report Block's range. -/
def clashing : Image := profile [(8, 0x10000), (9, 0x10000)]
/-- A profile that pins pairs 0 and 1 to lane 3. -/
def pinned : Image := profile [(71, 3), (71 + 16, 3)]
/-- A profile that changes the cell count of pair 0, as seen by a part whose pair 0 is DOWN. -/
def resized : Image := profile (placed ++ [(67, 9)])

theorem test_CommitsWaitOrAreRejected_other_premises :
    ((clashing.setField 0 0x00070100).rangeFault = none ∧ up.overlapFault (clashing.setField 0 0x00070100) = true) ∧
      ((resized.setField 0 0x00070100).rangeFault = none ∧ heldCell.overlapFault (resized.setField 0 0x00070100) = false ∧
        heldCell.liveFault (resized.setField 0 0x00070100) = some 67) ∧
      ((pinned.setField 0 0x00070100).rangeFault = none ∧ up.overlapFault (pinned.setField 0 0x00070100) = false ∧
        up.liveFault (pinned.setField 0 0x00070100) = none ∧ (pinned.setField 0 0x00070100).pinFault = some 87) := by
  decide +kernel

theorem test_AcceptedCommitAdoptsTheImage_premises :
    byteOf 0x00070100 2 = 1 ∧ up.validate (up.prof.image.setField 0 0x00070100) = .accept ∧
      after (exec (.memoryAnswer 3 (.ok [])) (writing up [.capture [(0, 0x00070100)]])) (fun t =>
        t.prof.lastApplied == some 7 && t.count .applied == 1) = true := by decide +kernel

/-! ## Premises: the receive side -/

theorem test_FreeNeedsTheUseNumber_premises :
    (heldCell.pair 0).cells[0]? = some (.held 0 .window) ∧ ((heldCell.freeUse 0 0 0).pair 0).cells[0]? = some .free ∧
      (heldCell.pair 0).cells[1]? = some .free ∧ ((heldCell.freeUse 0 0 1).pair 0).cells = (heldCell.pair 0).cells ∧
      (heldCell.pair 0).cells[4]? = none := by
  decide +kernel

theorem test_DamagedAndUnwantedWritesLandNothing_premises :
    ((board.pair 0).state = .out ∧ (board.pair 0).cells[0]? = none) ∧
      ((pair0 heldCell fun r => { r with cursor := .header 0 }).pair 0).cursor = .header 0 ∧ classifyHeader 0 0 ≠ .none ∧
      min 255 (((heldCell.pair 0).recentErrors) + 1) < heldCell.prof.active.errorBurstLimit := by decide +kernel

def cursor (c : Cursor) : State := pair0 heldCell fun r => { r with cursor := c }
def dataHeader : Header := parseHeader (headerWord0 kindData true true 0 1 0) 0

theorem test_ringArrival_void_premises :
    (heldCell.pair 0).cells[0]? = some (.held 0 .window) ∧ (heldCell.pair 0).state ≠ .out ∧
      ((pair0 heldCell fun r => { r with state := .out }).pair 0).state = .out := by decide +kernel

theorem test_ringArrival_other_premises :
    (heldCell.pair 0).state ≠ .out ∧ (heldCell.pair 0).cells[1]? = some .free ∧ (heldCell.pair 0).cells[2]? = some .free ∧
      (heldCell.pair 0).cellOf (heldCell.pair 0).landed = 1 ∧ (heldCell.pair 0).cellOf ((heldCell.pair 0).landed + 1) = 2 ∧
      (heldCell.pair 0).cursor = .idle ∧ ((cursor (.header 0)).pair 0).cursor = .header 0 ∧
      ((cursor (.absorbing .check)).pair 0).cursor = .absorbing .check ∧
      ((cursor (.payload 2 dataHeader true [])).pair 0).cursor = .payload 2 dataHeader true [] ∧ (2 : Nat) ≠ 0 := by
  decide +kernel

/-- The effect of an OWNER write of one word at an offset of a cell of pair 0: its landed count, its cursor's code, and its TORN and
RING_SKIP counts. -/
def arrived (s : State) (c offset : Nat) : Half × Nat × Word × Word :=
  let r := (s.ringArrival 0 .owner c offset [0]).pair 0
  (r.landed, r.cursor.code, r.count .torn, r.count .ringSkip)

theorem test_ring_writes_start_tear_and_skip :
    arrived heldCell 1 0 = (1, 1, 0, 0) ∧ arrived heldCell 2 0 = (1, 0, 0, 1) ∧ arrived heldCell 1 4 = (1, 0, 0, 1) ∧
      arrived (cursor (.header 0)) 2 0 = (2, 1, 1, 0) ∧ arrived (cursor (.header 0)) 1 8 = (2, 0, 1, 1) ∧
      arrived (cursor (.absorbing .check)) 2 0 = (2, 1, 0, 0) ∧ arrived (cursor (.absorbing .check)) 1 8 = (1, 3, 0, 0) ∧
      arrived (cursor (.payload 2 dataHeader true [])) 3 0 = (1, 2, 0, 1) := by decide +kernel

theorem test_landWord_premises :
    (cursor (.header (headerWord0 kindData true true 0 1 0))).pair 0 = { heldCell.pair 0 with
        cursor := .header (headerWord0 kindData true true 0 1 0) } ∧
      classifyHeader (headerWord0 kindData true true 0 1 0) (headerWord1 (headerWord0 kindData true true 0 1 0) 4 0 false) = .none ∧
      2 + 1 = 2 + ((4 : Half).toNat + 3) / 4 ∧ 2 + 1 ≠ 2 + ((5 : Half).toNat + 3) / 4 := by decide +kernel

theorem test_LostHeadPassed_premises : (head board [.lost, .landed (fragment false true)]).reseq.window[0] = .lost := by
  decide +kernel

theorem test_OrphanPassed_premises :
    (head board [.landed (fragment false true)]).reseq.window[0] = .landed (fragment false true) ∧ (fragment false true).s = false := by
  decide +kernel

/-- A complete frame at the head, a room notice on its way. -/
def noticed : State :=
  let s := head heldCell [.landed (fragment true true)]
  { s with deliv := { s.deliv with roomNotices := 1 } }

theorem test_RoomNoticeHandsOffTheFrame_premises :
    (noticed.pins.resetN = true ∧ noticed.deliv.roomNotices ≠ 0 ∧ noticed.deliv.queue.length < 64) ∧
      noticed.reseq.window[0] = .landed (fragment true true) ∧ noticed.reseq.window[1] = .empty ∧
      after (exec .roomNotice noticed) (fun t =>
        t.deliv.queue.map FrameRec.length == [64] && t.reseq.head == 1 && (t.pair 0).cells[0]? == some (.held 0 .delivery)) = true := by
  decide +kernel

/-- An empty head with a landed fragment behind it, the skew timer armed for time 60. -/
def skewed : State := (head board [.empty, .landed (fragment true true)]).aim
def skew0 : Skew := { gap := 0, reference := 1, refTime := 0, deadline := 60 }

/-- Pair 0 ACTIVE with four free cells and its lane learned, the receiver synchronized. -/
def receiver : State :=
  let s := pair0 sender fun r =>
    { r with cells := [.free, .free, .free, .free], lane := some { lane := 0, source := .learned } }
  { s with reseq := { s.reseq with generation := 1, synced := true } }

theorem test_fragment_lands_and_is_delivered :
    let w0 := headerWord0 kindData true true 0 1 0
    after (exec (.memoryAnswer 3 (.ok []))
      (writing receiver [.ringWrite 0 .owner 0 0 [w0, headerWord1 w0 4 0 false, 0xCAFE]])) (fun t =>
        t.deliv.queue.map (fun f => (f.length, f.mask, f.firstSeq)) == [(4, 1, 0)] && t.reseq.head == 1 && (t.pair 0).landed == 1 &&
          (t.pair 0).cells == [.held 0 .delivery, .free, .free, .free] && (t.pair 0).count .landedData == 1 &&
          (t.pair 0).horizon == some 0 && t.count .framesDelivered == 1) = true := by decide +kernel

def laneOne : Completed := { hdr := { dataHeader with lane := 1 }, matching := true, captured := [], cell := 0, use := 0 }
def lane0 (l : Option LaneEntry) (p : PairState) : State := pair0 board fun r => { r with lane := l, state := p }

theorem test_laneCheck_premises :
    ((lane0 (some ⟨1, .pinned⟩) .active).pair 0).lane = some ⟨1, .pinned⟩ ∧ (1 : Fin 8) = laneOne.hdr.lane ∧
      ((lane0 (some ⟨0, .learned⟩) .active).pair 0).lane = some ⟨0, .learned⟩ ∧ (0 : Fin 8) ≠ laneOne.hdr.lane ∧
      ((lane0 none .down).pair 0).lane = none ∧ ((lane0 none .down).pair 0).state = .down ∧
      (∀ q : Pair, ((lane0 none .down).pair q).lane = none) ∧
      (((lane0 none .down).modPair 7 fun r => { r with lane := some ⟨1, .pinned⟩ }).pair 7).lane = some ⟨1, .pinned⟩ ∧
      ((lane0 none .proving).pair 0).state ≠ .down ∧ laneOne.hdr.kind = kindData ∧
      (parseHeader (headerWord0 kindStatus false false 0 1 0) 0).kind = kindStatus ∧
      (parseHeader (headerWord0 kindProve false false 0 1 0) 0).kind = kindProve := by decide +kernel

/-- A DATA fragment of pair 0 at a sequence number, of a generation. -/
def arrival (g : Byte) (q : Half) : DataRecord :=
  { pair := 0, cell := 1, use := 1, generation := g, sequence := q, length := 64, s := true, e := true, time := 0 }
/-- What admission does with it: the pair's counters ADMITTED, DUPLICATE, LATE, STALE and ORDER_SLIP, and its horizon. -/
def admitted (s : State) (g : Byte) (q : Half) : List Word × Option Half :=
  let r := (s.admitData (arrival g q)).pair 0
  ([r.count .admitted, r.count .duplicate, r.count .late, r.count .stale, r.count .orderSlip], r.horizon)
/-- The receiver with an EMPTY, a LANDED and a LOST position before EMPTY ones, its pair's horizon at the second; pair 1 is ACTIVE without
a horizon, so closure does not apply. -/
def windowed : State :=
  (pair0 (head receiver [.empty, .landed (fragment true true), .lost]) fun r => { r with horizon := some 1 }).modPair 1 fun r =>
    { r with state := .active }

theorem test_admission_by_state_and_generation_premises :
    (sender.pair 1).state ≠ .active ∧ (receiver.pair 0).state = .active ∧ receiver.reseq.synced = true ∧
      sender.reseq.synced = false ∧ newer 2 receiver.reseq.generation = true ∧ newer 0 receiver.reseq.generation = false ∧
      (0 : Byte) ≠ receiver.reseq.generation ∧ newer 1 receiver.reseq.generation = false := by decide +kernel

theorem test_admission_by_distance :
    admitted windowed 1 3 = ([1, 0, 0, 0, 0], some 3) ∧ admitted windowed 1 0 = ([1, 0, 0, 0, 1], some 2) ∧
      admitted windowed 1 511 = ([1, 0, 0, 0, 0], some 511) ∧ admitted windowed 1 1 = ([0, 1, 0, 0, 0], some 1) ∧
      admitted windowed 1 2 = ([0, 0, 1, 0, 0], some 1) ∧ admitted windowed 1 32768 = ([0, 0, 0, 1, 0], some 1) := by
  decide +kernel

theorem test_admission_beyond_the_window :
    let blocked : State := { windowed with reseq := { windowed.reseq with blocked := true } }
    ((blocked.admitData (arrival 1 512)).pair 0).count .windowFull = 1 ∧
      ((blocked.admitData (arrival 1 32767)).pair 0).count .windowFull = 1 ∧
      (windowed.admitData (arrival 1 512)).count .forcedAdvance = 1 ∧ (windowed.admitData (arrival 1 512)).reseq.head = 3 ∧ (receiver.pair 0).horizon = none := by decide +kernel

/-- A voided cell of a delivered frame: the frame's record is posted again before the release count that the void lets go (R39). -/
theorem test_void_posts_the_notice_before_the_release_count :
    let s := pair0 (holding frame0) fun r => { r with state := .down, cells := [.held 0 .delivery, .free], landed := 1 }
    ((s.voidCell 0 0).path.pointer.map PointerEntry.target) = [.deliveryRecord 0, .eventWord, .countWord 16] := by decide +kernel

/-- A newly placed Delivery Ring: its records, then the producer count with the zero word at +12 (R99). -/
theorem test_placed_delivery_ring_posts_the_zero_word :
    (holding frame0).postDeliveryRing.path.pointer =
      [{ target := .deliveryRecord 0, value := frame0.image }, { target := .countWord 4, value := [countWord 1] },
        { target := .countWord 12, value := [0] }] := by decide +kernel

theorem test_SkewExpiryDeclares_premises :
    (skewed.pins.resetN = true ∧ skewed.reseq.skew = some skew0) ∧ reached 60 skew0.deadline = true ∧
      reached 59 skew0.deadline = false ∧
      after (exec .skewTimerExpiry { skewed with clock := { skewed.clock with time := 60 } }) (fun t =>
        t.count .skewLost == 1 && t.count .lostSequence == 1 && t.deliv.queue.length == 1 && t.reseq.head == 2) = true := by
  decide +kernel

def piece0 : Piece := { addr := 0xB0008, count := 1, stage := .issued }
def redirect0 : Redirect := { frame := 0, start := 0, length := 64, pieces := [piece0], faulted := false }
def pieceUp : UpTx := { opened .read 1 [] with stage := .redirected redirect0 }
def pieceOf (f : FrameRec) : State := State.sends ((holding f).setUp [pieceUp]) (sent .read 1 (.piece 5 false))

theorem test_PieceAnswersTheRead_premises :
    ((pieceOf frame0).awaits 3 (sent .read 1 (.piece 5 false)) (.piece 5 false) ∧ (pieceOf frame0).upTx 5 = some pieceUp) ∧
      ((pieceOf frame0).spoilt redirect0 1 = false ∧ (pieceOf voidFrame).spoilt redirect0 1 = true) ∧
      after (exec (.pieceEnd 3 (.ok [0xABCD])) (pieceOf { frame0 with pins := 1 })) (fun t =>
        t.responses.map Response.data == [[0xABCD]] && t.deliv.queue.map FrameRec.pins == [0]) = true := by
  simp only [State.awaits, State.linked]; decide +kernel

/-! ## Premises: the transmit side -/

def offered : State := ringed.modSubm fun u => { u with produced := 1 }

theorem test_SubmissionUnitSteps_premises :
    (offered.subm.fetched ≠ offered.subm.produced ∧ offered.subm.fetch = none ∧ offered.subm.queue.length < 32 ∧
        offered.subm.ring = some { base := 0x90000, size := 8 }) ∧
      ((queued board [entry]).dist.frame = none ∧ (queued board [entry]).dist.dropping = false ∧
        (queued board [entry]).subm.select = some entry) ∧
      let waits := ringed.modSubm fun u => { u with ringWaiting := true }
      waits.subm.ringWaiting = true ∧ waits.subm.queue = [] ∧ waits.subm.fetch = none ∧ waits.subm.fetched = waits.subm.produced := by
  decide +kernel

def fetch0 : Fetch := { number := 0, slot := 0x90000, issued := true }
def fetching : State := State.sends (ringed.modSubm fun u => { u with produced := 1, fetched := 1, fetch := some fetch0 }) (sent .read 3 .fetch)

theorem test_FetchedRecordTaken_premises :
    fetching.awaits 3 (sent .read 3 .fetch) .fetch ∧ fetching.subm.fetch = some fetch0 ∧
      fetching.checkRecord (parseSubmission 0xC0000 0x10000200 0x00090000) = some .bulk ∧
      fetching.checkRecord (parseSubmission 0xC0000 0x00010100 0) = some .express ∧
      fetching.checkRecord (parseSubmission 0xC0000 0x10010200 0) = none ∧
      fetching.checkRecord (parseSubmission 0xC0000 0x00000200 0) = none ∧
      fetching.checkRecord (parseSubmission 0x7F004 0x10000200 0) = none := by
  simp only [State.awaits, State.linked]; decide +kernel

theorem test_FetchFailureCompletesFault_premises :
    (fetching.awaits 3 (sent .read 3 .fetch) .fetch ∧ fetching.subm.fetch = some fetch0) ∧
      after (exec (.fetchAnswer 3 .error) fetching) (fun t =>
        t.path.pointer.contains { target := .completion 0x9000C, value := [0x06000000] } && t.count .fetchFault == 1 &&
          t.subm.completed == 1) = true := by
  simp only [State.awaits, State.linked]; decide +kernel

def aging (us : Time) (q : TxEntry) : State :=
  let s := queued board [q]
  { s with clock := { s.clock with time := us } }
def stalled (us : Time) : State := (aging us { entry with cutting := some 0 }).modDist fun x => { x with frame := some cut0 }
def released : State :=
  (queued board [{ entry with cutting := some 0, releaseAs := some .stalled }]).modDist fun x =>
    { x with frame := some cut0, dropping := true }

theorem test_FrameExpiries_premises :
    ((aging 2000 entry).subm.queue.find? (fun x => x.number == entry.number && (aging 2000 entry).aged x) = some entry ∧
        (aging 1999 entry).subm.queue.find? (fun x => x.number == entry.number && (aging 1999 entry).aged x) = none) ∧
      ((stalled 2000).subm.cuttingEntry = some { entry with cutting := some 0 } ∧
        reached (stalled 2000).clock.time (0 + (stalled 2000).prof.active.transmitAge) = true ∧
        (stalled 2000).dist.frame = some cut0 ∧ (stalled 2000).dist.dropping = false ∧ (stalled 2000).dist.copier = none) ∧
      (released.dist.frame = some cut0 ∧ released.dist.dropping = true ∧ released.dist.copier = none ∧
        released.subm.queue.find? (fun x => x.number == cut0.number) =
          some { entry with cutting := some 0, releaseAs := some .stalled }) := by decide +kernel

/-- A target pending; pair 0 changes its allocation, and may not while it has a cell FILLING. -/
def pendingTarget (fill : Half) : State :=
  (pair0 board fun r => { r with fill := fill }).modDist fun x => { x with target := some board.prof.active.target }

theorem test_RecomputeTakenIntoUse_premises :
    (pendingTarget 0).dist.target = some board.prof.active.target ∧ (pendingTarget 0).targetReady = true ∧
      (pendingTarget 1).targetReady = false ∧
      after (exec .recomputeTakeIntoUse (pendingTarget 0)) (fun t => (t.pair 0).alloc == { first := 0, count := 4 }) = true := by
  decide +kernel

def cutOf0 : Cut := { first := 0, left := 64, given := 0, limit := 64 }
def replacing : State := sender.modDist fun x => { x with toReplace := some fragment0 }

theorem test_DataPlaced_premises :
    (sender.pins.resetN = true ∧ (State.replenish cutOf0 16 sender).choose cutOf0 = some 0 ∧ sender.dist.frame = some cut0 ∧
        sender.nextWork = .data cutOf0) ∧
      (replacing.nextWork = .replace cutOf0 ∧ replacing.dist.toReplace = some fragment0 ∧
        (State.replenish cutOf0 16 replacing).choose cutOf0 = some 0) := by decide +kernel

theorem test_data_placement :
    after (exec .dataPlacement sender) (fun t =>
      t.dist.copier.map Work.kind == some (.data fragment0) && t.dist.nextSeq == 1 && (t.pair 0).fill == 1 && (t.pair 0).credit == 0) =
        true := by decide +kernel

def statusDue : State := pair0 sender fun r => { r with statusDue := true }
def proving0 : State := pair0 sender fun r => { r with state := .proving }

theorem test_ControlPlaced_premises :
    statusDue.nextWork = .status 0 ∧ proving0.nextWork = .prove 0 ∧
      (pair0 proving0 fun r => { r with lastProve := some 0 }).nextWork = .nothing := by decide +kernel

def readWork : Work := work (.data fragment0) .reading
def writeWork : Work := { work (.data fragment0) (.writing 14) with done := 0 }
def statusWork : Work := { work .status (.writing 6) with words := List.replicate 6 0 }

theorem test_CopierAnswers_premises :
    ((copying readWork (sent .read 14 .copierRead)).awaits 3 (sent .read 14 .copierRead) .copierRead ∧
        (copying readWork (sent .read 14 .copierRead)).dist.copier = some readWork ∧ readWork.abandoned = false ∧
        readWork.kind = .data fragment0 ∧ (copying readWork (sent .read 14 .copierRead)).dist.frame = some cut0) ∧
      ((copying writeWork (sent .write 16 .copierWrite)).awaits 3 (sent .write 16 .copierWrite) .copierWrite ∧
        writeWork.done + 14 < wordsFor fragment0.length) ∧
      ((copying statusWork (sent .write 6 .copierWrite)).awaits 3 (sent .write 6 .copierWrite) .copierWrite ∧
        statusWork.words.length ≤ statusWork.done + 6 ∧ statusWork.spoilt = false ∧ statusWork.detached = false) := by
  simp only [State.awaits, State.linked]; decide +kernel

/-! ## Premises: the pairs -/

/-- Pair 0 in a state, at a time. -/
def at_ (time : Time) (f : PairRec → PairRec) : State :=
  let s := pair0 sender f
  { s with clock := { s.clock with time := time } }

def timers : State := at_ 100 fun r => { r with statusTimer := some 100 }

theorem test_PairTimers_premises :
    (reached 100 100 = true ∧ reached 99 100 = false) ∧
      ((timers.pair 0).statusTimer = some 100 ∧ (timers.pair 0).statusDue = false) ∧
      ((pair0 timers fun r => { r with statusDue := true }).pair 0).statusDue = true ∧
      (let s := at_ 100 fun r => { r with state := .down, deadline := some 100 }
       (s.pair 0).state = .down ∧ (s.pair 0).deadline = some 100) ∧
      (let s := at_ 600100 fun r => { r with entered := some 100 }
       (s.pair 0).state = .active ∧ (s.pair 0).entered = some 100 ∧ (100 : Time) + 600000 = 600100 ∧
         reached s.clock.time 600100 = true) := by decide +kernel

def lost0 (cells : Nat) : State :=
  at_ 500 fun r => { r with state := .lost, deadline := some 500, alloc := { first := 0, count := cells } }

theorem test_LossHoldoffEnds_premises :
    ((lost0 4).pins.resetN = true ∧ ((lost0 4).pair 0).state = .lost ∧ ((lost0 4).pair 0).deadline = some 500 ∧
        reached (lost0 4).clock.time 500 = true) ∧
      after (exec (.lossHoldoffExpiry 0) (lost0 4)) (fun t => (t.pair 0).state == .down && (t.pair 0).reason == .holdoff) = true ∧
      after (exec (.lossHoldoffExpiry 0) (lost0 0)) (fun t => (t.pair 0).state == .down && (t.pair 0).reason == .noCells) = true := by
  decide +kernel

def quarantined : State := at_ 500 fun r => { r with state := .quarantine, deadline := some 500 }
def judged (received errored : Half) : State :=
  at_ 500 fun r => { r with state := .proving, deadline := some 500, silence := some 500,
                            proving := { sent := 0, received := received, errored := errored, outcome := .none } }
def silent0 (flaps : List Time) : State := at_ 500 fun r => { r with silence := some 500, flaps := flaps }

theorem test_PairDeadlines_premises :
    ((quarantined.pair 0).state = .quarantine ∧ (quarantined.pair 0).deadline = some 500 ∧ (quarantined.pair 0).alloc.count ≠ 0) ∧
      ((judged 50 1).prof.active.provingMinimum ≤ 50 ∧ 1 ≤ (judged 50 1).prof.active.provingTolerance ∧
        49 < (judged 49 1).prof.active.provingMinimum ∧ (judged 50 2).prof.active.provingTolerance < 2) ∧
      (((judged 50 1).pair 0).state = .proving ∧ ((judged 50 1).pair 0).silence = some 500) ∧
      (((silent0 []).pair 0).state = .active ∧ ((silent0 []).pair 0).silence = some 500) ∧
      flapsFull (pushFlap [1, 2, 3] 60001) 60000 = true ∧ flapsFull (pushFlap [1, 2, 3] 60002) 60000 = false ∧
      flapsFull (pushFlap [] 500) 60000 = false := by decide +kernel

theorem test_pair_deadlines :
    after (exec (.provingPeriodEnd 0) (judged 50 1)) (fun t => (t.pair 0).state == .active) = true ∧
      after (exec (.provingPeriodEnd 0) (judged 49 1)) (fun t => (t.pair 0).reason == .provingFailed) = true ∧
      after (exec (.silenceExpiry 0) (judged 50 1)) (fun t => (t.pair 0).reason == .silent) = true ∧
      after (exec (.silenceExpiry 0) (silent0 [])) (fun t => (t.pair 0).state == .lost) = true ∧
      after (exec (.silenceExpiry 0) (silent0 [1, 2, 3])) (fun t =>
        (t.pair 0).state == .quarantine && (t.pair 0).deadline == some 30500) = true ∧
      after (exec (.penaltyEnd 0) quarantined) (fun t => (t.pair 0).state == .down && (t.pair 0).reason == .holdoff) = true := by
  decide +kernel

def drained0 (stop : Bool) : State :=
  let s := pair0 board fun r => { r with reason := .draining, drained := true, cells := [.free, .free], landed := 3 }
  { s with sup := { s.sup with stopView := stop } }

theorem test_DrainedPairStarts_premises :
    (((drained0 false).pair 0).drained = true ∧ ((drained0 false).pair 0).state = .out ∧
        ((drained0 false).pair 0).reason = .draining) ∧
      (((pair0 (drained0 false) fun r => { r with reason := .none }).pair 0).drained = true ∧
        ((pair0 (drained0 false) fun r => { r with reason := .none }).pair 0).reason = .none) ∧
      after (exec (.drainedPairStart 0) (drained0 true)) (fun t => (t.pair 0).state == .held && (t.pair 0).landed == 0) = true := by
  decide +kernel

/-! ## Premises: surge, profile and time -/

/-- Pair 0 ACTIVE with the stop's enable on. -/
def enabledStop : State :=
  { sender with prof := { sender.prof with active := profile ((30, 1) :: placed) } }

def stopped : State :=
  match exec .surgeFallingEdge enabledStop with
  | .next t => t
  | _ => enabledStop

theorem test_SurgeEdges_premises :
    (enabledStop.pins.resetN = true ∧ enabledStop.pins.surgeN = true ∧ enabledStop.prof.active.surgeEnable = true ∧
        enabledStop.surge.stop = false) ∧
      (sender.prof.active.surgeEnable = sender.surge.stop ∧ sender.pins.surgeN = true) ∧
      ((stopped.pair 0).state = .held ∧ stopped.surge.stop = true ∧ stopped.pins.surgeN = false) := by decide +kernel

theorem test_AcknowledgeJudged_premises :
    sender.surge.flag = false ∧ (stopped.surge.flag = true ∧ stopped.pins.surgeN = false) ∧
      (let s : State := { stopped with pins := { stopped.pins with surgeN := true } }
       s.surge.flag = true ∧ s.pins.surgeN = true ∧ s.surge.stop = true ∧ (s.acknowledge.pair 0).state = .down) ∧
      (let s : State := { sender with surge := { flag := true, stop := false } }
       s.surge.flag = true ∧ s.surge.stop = false) := by decide +kernel

def atEpoch (waiting : Option Half) : State :=
  { up with clock := { up.clock with time := 10 }, prof := { up.prof with waiting := waiting } }

theorem test_TimebaseSteps_premises :
    (reached (atEpoch none).clock.time (atEpoch none).clock.nextEpoch = true ∧ (atEpoch none).prof.waiting = none) ∧
      (atEpoch (some 7)).prof.waiting = some 7 ∧ reached 9 up.clock.nextEpoch = false ∧ up.clock.source = .internal ∧
      State.clock { up with clock := { up.clock with source := .reference } } = { up.clock with source := .reference } ∧
      after (exec .epochBoundary (atEpoch (some 7))) (fun t =>
        t.clock.epochCount == 1 && t.clock.nextEpoch == 20 && t.prof.lastApplied == some 7) = true := by decide +kernel

/-! ## Premises: events and the report -/

theorem test_RaiseSetsTheFlag_premises : up.prof.active.reportBase = none ∧ board.prof.active.reportBase = some 0x10000 := by
  decide +kernel

theorem test_PointerAndEventWordAnswers_premises :
    (State.sends board (sent .write 1 .pointer)).awaits 3 (sent .write 1 .pointer) .pointer ∧
      (State.sends board (sent .write 4 .eventWord)).awaits 3 (sent .write 4 .eventWord) .eventWord ∧
      board.rep.repost = false ∧ (board.modRep fun r => { r with repost := true }).rep.repost = true := by
  simp only [State.awaits, State.linked]; decide +kernel

def postedAll : State := ((posted.post (.deliveryRecord 3) [1]).post .eventWord [2]).post (.completion 0x9000C) [3]

theorem test_postings_keep_or_leave_their_place :
    (∀ e ∈ posted.path.pointer, e.target ≠ .eventWord) ∧
      (postedAll.post (.deliveryRecord 3) [9]).path.pointer.map PointerEntry.target =
        [.countWord 16, .deliveryRecord 3, .eventWord, .completion 0x9000C] ∧
      (postedAll.post (.completion 0x9000C) [9]).path.pointer.map PointerEntry.value = [[0], [1], [2], [9]] ∧
      (postedAll.post (.countWord 16) [9]).path.pointer.map PointerEntry.value = [[1], [2], [3], [9]] ∧
      (postedAll.post .eventWord [9]).path.pointer.map PointerEntry.target =
        [.countWord 16, .deliveryRecord 3, .completion 0x9000C, .eventWord] := by decide +kernel

def reporting (p : PubState) : State :=
  board.modRep fun r => { r with pubState := p, timer := some 0 }
def publishing (w : PubWrite) : State :=
  State.sends ((reporting .publishing).modRep fun r => { r with pubWrite := some w }) (sent .write 16 .publisher)
def pub62 : PubWrite := { index := 62, data := [], issued := true }
def endedPub : State := (reporting .publishing).modRep fun r => { r with ended := true }

theorem test_PublicationSteps_premises :
    ((reporting .idle).rep.timer = some 0 ∧ reached (reporting .idle).clock.time 0 = true ∧ (reporting .idle).rangeOpen = false) ∧
      ((reporting .due).rep.pubState = .due ∧ (reporting .due).rangeOpen = false) ∧
      ((publishing pub62).awaits 3 (sent .write 16 .publisher) .publisher ∧ (publishing pub62).rep.pubWrite = some pub62 ∧
        pub62.index < 63) ∧
      (endedPub.rep.ended = true ∧ endedPub.rep.followOn = false) := by
  simp only [State.awaits, State.linked]; decide +kernel

/-- The state with a read of the publication range forwarded, or held. -/
def reads (s : State) (g : UpStage) : State := s.setUp [{ waitingTx 6 1 .read 0x10010 1 [] with pubRange := true, stage := g }]
def marked (s : State) : State := s.modRep fun r => { r with followOn := true }

theorem test_PublicationSteps_other_premises :
    ((reads (reporting .idle) .issued).rangeOpen = true ∧ (reads (reporting .idle) .issued).rep.pubState = .idle) ∧
      ((reporting .publishing).rep.pubState = .publishing ∧ (marked (reporting .publishing)).rep.followOn = true ∧
        (reporting .publishing).rep.followOn = false) ∧
      (reads (reporting .due) .waiting).rangeOpen = true ∧
      ((publishing { pub62 with index := 63 }).heldReads = 0 ∧ (reads (publishing { pub62 with index := 63 }) .held).heldReads ≠ 0 ∧
        (reads (publishing { pub62 with index := 63 }) .held).downTx 3 = some (sent .write 16 .publisher)) ∧
      (marked endedPub).rep.ended = true := by decide +kernel

theorem test_publication_ends_with_held_reads_and_a_mark :
    after (exec (.publicationWriteAnswer 3 (.ok [])) (reads (publishing { pub62 with index := 63 }) .held)) (fun t =>
      t.rep.ended && t.rep.pubState == .publishing && t.count .publications == 1) = true ∧
      after (exec .heldReadRelease (marked (reads endedPub .held))) (fun t => t.rep.pubState == .due && t.rangeOpen) = true ∧
      after (exec .heldReadRelease (marked endedPub)) (fun t =>
        t.rep.pubState == .publishing && (t.rep.pubWrite.map PubWrite.index) == some 0 && !t.rep.followOn) = true := by
  decide +kernel

theorem test_publication_ends :
    after (exec (.publicationWriteAnswer 3 (.ok [])) (publishing { pub62 with index := 63 })) (fun t =>
      t.rep.pubState == .idle && t.count .publications == 1 && t.rep.pubWrite.isNone) = true ∧
      after (exec .publicationStart (reporting .due)) (fun t =>
        t.rep.pubState == .publishing && t.rep.pubCount == 1 && (t.rep.pubWrite.map PubWrite.index) == some 0) = true := by
  decide +kernel

/-! ## Premises: formats, and what every step keeps -/

theorem test_HeadersReadBackAsBuilt_premises :
    (1 : Half) ≠ 0 ∧ (1016 : Half).toNat ≤ 1016 ∧
      classifyHeader (headerWord0 kindData true false 3 1 0x1234)
        (headerWord1 (headerWord0 kindData true false 3 1 0x1234) 1016 0 false) = .none ∧
      classifyHeader (headerWord0 kindProve false false 3 1 0)
        (headerWord1 (headerWord0 kindProve false false 3 1 0) 256 5 true) = .check ∧
      classifyHeader (headerWord0 kindData true false 3 1 0x1234)
        (headerWord1 (headerWord0 kindData true false 3 1 0x1234) 1017 0 false) = .length := by decide +kernel

theorem test_SurgeStopKept_premises :
    ∃ t, stopped.surgeOk ∧ step { stopped with pending := [.surgeRisingEdge] } = .next t := by
  refine ⟨_, ?_, rfl⟩
  simp only [State.surgeOk]; decide +kernel

theorem test_AttentionKept_premises :
    ∃ t, (with_ [(7, 0x100)]).attnOk ∧ step { with_ [(7, 0x100)] with pending := [.surgeFallingEdge] } = .next t ∧ t.pins.attn = true := by
  refine ⟨_, ?_, rfl, ?_⟩
  · simp only [State.attnOk]; decide +kernel
  · decide +kernel

theorem test_DeliveryQueueKept_premises : ∃ t, (holding frame0).deliveryOk ∧ step (holding frame0) = .next t := by
  refine ⟨_, ⟨by decide +kernel, by decide +kernel, by decide +kernel, ?_⟩, rfl⟩
  intro i f h
  match i with
  | 0 =>
    have h : frame0 = f := Option.some.inj h
    subst h; decide +kernel
  | _ + 1 => exact nomatch h

theorem test_OpenTransactionsBounded_premises :
    full.upstreamOk ∧ (queued board [entry]).transmitOk ∧ postedAll.pointerOk := by
  simp only [State.upstreamOk, State.transmitOk, State.pointerOk]; decide +kernel

end Sys2Proof.Tests
end

section
/-! The head's move by 1 and a holder's free, field by field, and the two heads that head processing passes without a frame scan: LOST and
LANDED without S (R47, R60, R61). -/

namespace Sys2Proof.Machine

/-! ## The head's move (R47) -/

@[simp] theorem State.moveHead_head (s : State) (n : Nat) : (s.moveHead n).reseq.head = s.reseq.head + halfOf n := by
  obtain ⟨v, h⟩ := s.moveHead_frame n
  rw [h]

@[simp] theorem State.moveHead_window (s : State) (n : Nat) : (s.moveHead n).reseq.window = windowOf (s.positions.drop n) := by
  obtain ⟨v, h⟩ := s.moveHead_frame n
  rw [h]

@[simp] theorem State.moveHead_lostTally (s : State) (n : Nat) : (s.moveHead n).reseq.lostTally = s.reseq.lostTally := by
  obtain ⟨v, h⟩ := s.moveHead_frame n
  rw [h]

@[simp] theorem State.moveHead_discardedTally (s : State) (n : Nat) :
    (s.moveHead n).reseq.discardedTally = s.reseq.discardedTally := by
  obtain ⟨v, h⟩ := s.moveHead_frame n
  rw [h]

@[simp] theorem State.moveHead_count (s : State) (n : Nat) (c : GCounter) : (s.moveHead n).count c = s.count c := by
  obtain ⟨v, h⟩ := s.moveHead_frame n
  exact State.count_congr (by rw [h]) c

@[simp] theorem State.moveHead_deliv (s : State) (n : Nat) : (s.moveHead n).deliv = s.deliv := by
  obtain ⟨v, h⟩ := s.moveHead_frame n
  rw [h]

@[simp] theorem State.moveHead_cells (s : State) (n : Nat) (p : Pair) : ((s.moveHead n).pair p).cells = (s.pair p).cells := by
  rw [State.moveHead_pair]

@[simp] theorem State.moveHead_released (s : State) (n : Nat) (p : Pair) :
    ((s.moveHead n).pair p).released = (s.pair p).released := by
  rw [State.moveHead_pair]

/-- Each position moves one place nearer when the head moves by 1, and the far end is EMPTY. -/
theorem State.moveHead_one_window (s : State) :
    (∀ (k : Nat) (h : k < 511), (s.moveHead 1).reseq.window[k] = s.reseq.window[k + 1]) ∧
      (s.moveHead 1).reseq.window[511] = .empty := by
  simp only [State.moveHead_window]
  exact ⟨s.window_drop_one, s.window_drop_one_last⟩

/-! ## A holder's free (R31) -/

@[simp] theorem State.freeUse_reseq (s : State) (p : Pair) (c : Nat) (u : Half) : (s.freeUse p c u).reseq = s.reseq := by
  obtain ⟨v, l, h⟩ := s.freeUse_frame p c u
  rw [h, State.setPointer_reseq]

@[simp] theorem State.freeUse_count (s : State) (p : Pair) (c : Nat) (u : Half) (d : GCounter) :
    (s.freeUse p c u).count d = s.count d := by
  obtain ⟨v, l, h⟩ := s.freeUse_frame p c u
  exact State.count_congr (by rw [h, State.setPointer_counters]) d

@[simp] theorem State.freeUse_deliv (s : State) (p : Pair) (c : Nat) (u : Half) : (s.freeUse p c u).deliv = s.deliv := by
  obtain ⟨v, l, h⟩ := s.freeUse_frame p c u
  rw [h, State.setPointer_deliv]

/-! ## One look of head processing (R59) -/

/-- Head processing passes a LOST head and goes on at the new one (R60). -/
theorem State.headRun_lost (s : State) (n : Nat) (hd : s.reseq.window[0] = .lost) :
    State.headRun (n + 1) s = State.headRun n (s.passLost 1) := by
  obtain ⟨rest, hp, -⟩ := s.positions_head .lost hd
  rw [State.headRun, hp]

/-- Head processing passes a LANDED head without S as an orphan and goes on at the new one (R61). -/
theorem State.headRun_orphan (s : State) (n : Nat) (r : Landed) (hd : s.reseq.window[0] = .landed r) (hs : r.s = false) :
    State.headRun (n + 1) s = State.headRun n (s.passOrphan r) := by
  obtain ⟨rest, hp, -⟩ := s.positions_head (.landed r) hd
  rw [State.headRun, hp]
  simp [hs]

end Sys2Proof.Machine

namespace Sys2Proof.Proofs

open Sys2Proof.Machine

/-- Settles O32: head processing passes a LOST head by `passLost`, which counts it and moves the head by 1. -/
theorem lostHeadPassed : Obligations.LostHeadPassed := by
  intro s n hd
  refine ⟨s.passLost 1, s.headRun_lost n hd, ?_⟩
  unfold State.passLost
  obtain ⟨shifted, last⟩ := State.moveHead_one_window _
  refine ⟨State.moveHead_head _ 1, shifted, last, State.moveHead_lostTally _ 1, State.moveHead_discardedTally _ 1,
    ?counted, ?others, State.moveHead_deliv _ 1⟩
  case counted =>
    rw [State.moveHead_count]
    exact State.count_bump_self s .lostSequence 1
  case others =>
    intro c hc
    rw [State.moveHead_count]
    exact State.count_bump_ne s .lostSequence c 1 hc

/-- Settles O33: head processing passes an orphan by `passOrphan`; its free and its count leave the Resequencer alone, and the head's move
by 1 leaves the cells and the release counts as the free left them. -/
theorem orphanPassed : Obligations.OrphanPassed := by
  intro s n r hd hs
  refine ⟨s.passOrphan r, s.headRun_orphan n r hd hs, ?_⟩
  unfold State.passOrphan
  have reseq : ((s.freeUse r.pair r.cell r.use).bump .orphan).reseq = s.reseq := by simp
  obtain ⟨shifted, last⟩ := ((s.freeUse r.pair r.cell r.use).bump .orphan).moveHead_one_window
  rw [reseq] at shifted
  refine ⟨?head, shifted, last, ?lostTally, ?discardedTally, ?counted, ?others, ?freed, ?deliv⟩
  case head => rw [State.moveHead_head, reseq]; rfl
  case lostTally => rw [State.moveHead_lostTally, reseq]
  case discardedTally => rw [State.moveHead_discardedTally, reseq]
  case counted => rw [State.moveHead_count, State.count_bump_self, State.freeUse_count]
  case others =>
    intro c hc
    rw [State.moveHead_count, State.count_bump_ne _ _ _ _ hc, State.freeUse_count]
  case freed =>
    intro p
    rw [State.moveHead_cells, State.moveHead_released, State.pair_congr (State.bump_pairs _ _ _)]
    exact ⟨rfl, rfl⟩
  case deliv => rw [State.moveHead_deliv, State.bump_deliv, State.freeUse_deliv]

end Sys2Proof.Proofs
end

section
/-! A fetch that fails: what its submission's FAULT completion is, and how memory's ERROR and the response limit both reach it (R19, R20,
R124). -/

namespace Sys2Proof.Machine

/-- A failed fetch's completion, posting by posting: the fetch in flight is absent and K recomputed before the completion word is posted
(R121, R124, R130). -/
theorem State.fetchFailed_eq (s : State) (f : Fetch) :
    s.fetchFailed f =
      ((((((s.modSubm fun u => { u with fetch := none }).recount).post (.completion (f.slot + 12))
        [completionWord .fault 0 0]).raise .submitDone).bump .fault).bump .fetchFault) := rfl

/-- Only an Event Word write's failure is without a posting of its own; any other raises PATH_FAULT (R209). -/
theorem State.pathFault_of_ne_eventWord (s : State) (t : DownTx) (h : t.issuer ≠ .eventWord) :
    s.pathFault t = s.raise .pathFault := if_neg h

/-- The failure of a fetch's transaction goes to the fetch in flight (R19). -/
theorem State.failTo_fetch (s : State) (t : DownTx) (f : Fetch) (hi : t.issuer = .fetch) (hf : s.subm.fetch = some f) :
    s.failTo t = s.fetchFailed f := by
  simp [State.failTo, hi, hf]

/-- PATH_FAULT and then the failure passed on, as both ends of a failed transaction have it (R19, R20). -/
theorem State.pathFault_failTo_fetch (s : State) (t : DownTx) (f : Fetch) (hi : t.issuer = .fetch) (hf : s.subm.fetch = some f) :
    (s.pathFault t).failTo t = (s.raise .pathFault).fetchFailed f := by
  have raised : s.pathFault t = s.raise .pathFault := s.pathFault_of_ne_eventWord t (by simp [hi])
  have inFlight : (s.raise .pathFault).subm.fetch = some f := by rw [State.raise_subm, hf]
  rw [raised, State.failTo_fetch _ t f hi inFlight]

/-- ERROR from memory for the transaction of the fetch in flight (R20, R124). -/
theorem exec_fetchAnswer_error (s : State) (d : Label) (t : DownTx) (f : Fetch) (h : s.awaits d t .fetch)
    (hf : s.subm.fetch = some f) :
    exec (.fetchAnswer d .error) s = .next ((((s.setDown d none).bump .memoryError).raise .pathFault).fetchFailed f) := by
  have ⟨_, _, _, issuer⟩ := h
  calc exec (.fetchAnswer d .error) s
      = .next (s.memoryError d t) := s.answer_awaited Issuer.isFetch d t .fetch .error h rfl
    _ = _ := congrArg _ (State.pathFault_failTo_fetch _ t f issuer hf)

/-- The response limit reached for the transaction of the fetch in flight (R19, R124). -/
theorem exec_responseLimitExpiry_fetch (s : State) (d : Label) (us : Nat) (t : DownTx) (f : Fetch) (h : s.awaits d t .fetch)
    (hf : s.subm.fetch = some f) (limitReached : t.issuedAt + t.limit ≤ us) :
    exec (.responseLimitExpiry d us) s =
      .next ((((s.setDown d (some { t with timedOut := true })).bump .pathTimeout).raise .pathFault).fetchFailed f) := by
  have ⟨⟨up, _⟩, _, _, issuer⟩ := h
  calc exec (.responseLimitExpiry d us) s
      = .next (s.limitExpiry d us) := congrArg _ (if_pos up)
    _ = .next (s.timeOut d t) := by rw [s.limitExpiry_awaited d us t .fetch h, if_pos limitReached]
    _ = _ := congrArg _ (State.pathFault_failTo_fetch _ t f issuer hf)

end Sys2Proof.Machine

namespace Sys2Proof.Proofs

open Sys2Proof.Machine

/-- Settles O39: ERROR and the response limit end the fetch's transaction each in its own way, and `fetchFailed` completes the submission
after either. -/
theorem fetchFailureCompletesFault : Obligations.FetchFailureCompletesFault := by
  intro s d us t f awaited inFlight
  refine ⟨?error, ?expiry⟩
  case error => rw [exec_fetchAnswer_error s d t f awaited inFlight, State.fetchFailed_eq]
  case expiry =>
    intro limitReached
    rw [exec_responseLimitExpiry_fetch s d us t f awaited inFlight limitReached, State.fetchFailed_eq]

end Sys2Proof.Proofs
end

section
/-! What the operations keep, as relations between the state before and the state after: `Safe` for what every step keeps, `Told` for what
an accepted commit and the Surge Monitor keep beside it, and `Keeps` for what every operation keeps but those of resets, the Profile Unit,
the Timebase and the Surge Monitor. Each relation chains along an operation's definition: one lemma per operation. -/

-- Theorem by theorem: the check's thread stacks leave no memory for many proofs at once behind the slow tests.
set_option Elab.async false

namespace Sys2Proof.Machine

/-! ## The relations -/

/-- The Profile Unit without the serials acted on (R203). -/
def ProfileUnit.unacted (u : ProfileUnit) : ProfileUnit :=
  { u with actedBond := 0, actedAck := 0, actedOneShot := 0, actedInject := Vector.replicate 8 0 }

/-- The Pair Supervisor's view is the stop, every pair is HELD or OUT under it, and none is HELD otherwise (R180, R190). -/
def State.stopOk (s : State) : Prop :=
  s.sup.stopView = s.surge.stop ∧
    ∀ p : Pair, (s.surge.stop = true → (s.pair p).state = .out ∨ (s.pair p).state = .held) ∧
      (s.surge.stop = false → (s.pair p).state ≠ .held)

/-- What every step keeps of the queue, ATTN_N, the Delivery Queue, the open transactions and the Transmit Queue. -/
structure Safe (s t : State) : Prop where
  pending  : t.pending = s.pending
  attn     : s.attnOk → t.attnOk
  delivery : s.deliveryOk → t.deliveryOk
  upstream : s.upstreamOk → t.upstreamOk
  transmit : s.transmitOk → t.transmitOk

/-- What the blocks keep that an accepted commit tells (R201): beside `Safe`, the Profile Unit but for the serials acted on, the clock, the
input pins, and the flags of the event set, of which none is removed. -/
structure Told (s t : State) : Prop where
  safe    : Safe s t
  unacted : t.prof.unacted = s.prof.unacted
  clock   : t.clock = s.clock
  resetN  : t.pins.resetN = s.pins.resetN
  surgeN  : t.pins.surgeN = s.pins.surgeN
  events  : ∀ i, s.rep.events.getLsbD i = true → t.rep.events.getLsbD i = true

/-- What an operation keeps that neither resets nor belongs to the Profile Unit, the Timebase or the Surge Monitor. -/
structure Keeps (s t : State) : Prop where
  told  : Told s t
  prof  : t.prof = s.prof
  surge : t.surge = s.surge
  view  : t.sup.stopView = s.sup.stopView
  stop  : s.stopOk → t.stopOk

theorem Safe.refl (s : State) : Safe s s := ⟨rfl, id, id, id, id⟩

theorem Safe.trans {s t u : State} (h : Safe s t) (g : Safe t u) : Safe s u :=
  ⟨g.pending.trans h.pending, g.attn ∘ h.attn, g.delivery ∘ h.delivery, g.upstream ∘ h.upstream, g.transmit ∘ h.transmit⟩

theorem Told.refl (s : State) : Told s s := ⟨.refl s, rfl, rfl, rfl, rfl, fun _ => id⟩

theorem Told.trans {s t u : State} (h : Told s t) (g : Told t u) : Told s u :=
  ⟨h.safe.trans g.safe, g.unacted.trans h.unacted, g.clock.trans h.clock, g.resetN.trans h.resetN, g.surgeN.trans h.surgeN,
    fun i => g.events i ∘ h.events i⟩

theorem Keeps.refl (s : State) : Keeps s s := ⟨.refl s, rfl, rfl, rfl, id⟩

theorem Keeps.trans {s t u : State} (h : Keeps s t) (g : Keeps t u) : Keeps s u :=
  ⟨h.told.trans g.told, g.prof.trans h.prof, g.surge.trans h.surge, g.view.trans h.view, g.stop ∘ h.stop⟩

/-- An operation that changes neither the queue nor what the other conditions look at keeps them. -/
theorem Told.surge {s t : State} (h : Told s t) {x : Surge} : Told s { t with surge := x } :=
  h.trans ⟨⟨rfl, id, id, id, id⟩, rfl, rfl, rfl, rfl, fun _ => id⟩

theorem Told.sup {s t : State} (h : Told s t) {x : Supervisor} : Told s { t with sup := x } :=
  h.trans ⟨⟨rfl, id, id, id, id⟩, rfl, rfl, rfl, rfl, fun _ => id⟩

theorem Keeps.safe {s t : State} (h : Keeps s t) : Safe s t := h.told.safe

/-- An operation made for each item of a list keeps what it keeps for one. -/
theorem Keeps.foldl {α : Type} {s t : State} (h : Keeps s t) (f : State → α → State) (hf : ∀ u x, Keeps u (f u x)) (l : List α) :
    Keeps s (l.foldl f t) := by
  induction l generalizing t with
  | nil => exact h
  | cons x xs ih => exact ih (h.trans (hf t x))

theorem Keeps.forPairs {s t : State} (h : Keeps s t) (f : State → Pair → State) (hf : ∀ u p, Keeps u (f u p)) :
    Keeps s (t.forPairs f) := h.foldl f hf allPairs

theorem Told.foldl {α : Type} {s t : State} (h : Told s t) (f : State → α → State) (hf : ∀ u x, Told u (f u x)) (l : List α) :
    Told s (l.foldl f t) := by
  induction l generalizing t with
  | nil => exact h
  | cons x xs ih => exact ih (h.trans (hf t x))

theorem Safe.foldl {α : Type} {s t : State} (h : Safe s t) (f : State → α → State) (hf : ∀ u x, Safe u (f u x)) (l : List α) :
    Safe s (l.foldl f t) := by
  induction l generalizing t with
  | nil => exact h
  | cons x xs ih => exact ih (h.trans (hf t x))

/-- A step taken under a condition keeps what the step keeps. -/
theorem Keeps.whenever {s : State} {c : Bool} {f : State → State} (h : c = true → Keeps s (f s)) : Keeps s (s.whenever c f) := by
  unfold State.whenever
  split
  · next e => exact h e
  · exact .refl s

theorem Keeps.whenUp {s : State} {f : State → State} (h : Keeps s (f s)) : Keeps s (s.whenUp f) := by
  unfold State.whenUp
  split
  · exact h
  · exact .refl s

/-! ## What the kept conditions look at -/

theorem State.attnOk_congr {s t : State} (pin : t.pins.attn = s.pins.attn) (events : t.rep.events = s.rep.events)
    (prof : t.prof = s.prof) (h : s.attnOk) : t.attnOk := by
  unfold State.attnOk
  rw [pin, events, prof]
  exact h

theorem State.deliveryOk_congr {s t : State} (deliv : t.deliv = s.deliv) (h : s.deliveryOk) : t.deliveryOk := by
  unfold State.deliveryOk
  rw [deliv]
  exact h

theorem State.upstreamOk_congr {s t : State} (labels : t.path.up.map UpTx.label = s.path.up.map UpTx.label)
    (streak : t.path.streak = s.path.streak) (h : s.upstreamOk) : t.upstreamOk := by
  have length : t.path.up.length = s.path.up.length := by simpa using congrArg List.length labels
  unfold State.upstreamOk
  rw [labels, streak, length]
  exact h

theorem State.transmitOk_congr {s t : State} (queue : t.subm.queue.length = s.subm.queue.length)
    (fetch : t.subm.fetch.isSome = s.subm.fetch.isSome) (h : s.transmitOk) : t.transmitOk := by
  unfold State.transmitOk
  rw [queue, fetch]
  exact h

theorem State.stopOk_congr {s t : State} (view : t.sup.stopView = s.sup.stopView) (surge : t.surge = s.surge)
    (states : ∀ p, (t.pair p).state = (s.pair p).state) (h : s.stopOk) : t.stopOk := by
  unfold State.stopOk
  simp only [view, surge, states]
  exact h

/-- A state that agrees with another in all that the relations look at is kept as the other is. -/
theorem Keeps.congr {s t u : State} (h : Keeps s t) (calm : u.calm = t.calm) (pin : u.pins.attn = t.pins.attn := by rfl)
    (events : u.rep.events = t.rep.events := by rfl) (labels : u.path.up.map UpTx.label = t.path.up.map UpTx.label := by rfl)
    (streak : u.path.streak = t.path.streak := by rfl) (deliv : u.deliv = t.deliv := by rfl)
    (queue : u.subm.queue.length = t.subm.queue.length := by rfl)
    (fetch : u.subm.fetch.isSome = t.subm.fetch.isSome := by rfl) : Keeps s u := by
  have prof : u.prof = t.prof := congrArg Calm.prof calm
  have surge : u.surge = t.surge := congrArg Calm.surge calm
  refine h.trans ⟨⟨⟨?_, ?_, ?_, ?_, ?_⟩, ?_, ?_, ?_, ?_, ?_⟩, prof, surge, congrArg Calm.stopView calm, ?_⟩
  · exact congrArg Calm.pending calm
  · exact State.attnOk_congr pin events prof
  · exact State.deliveryOk_congr deliv
  · exact State.upstreamOk_congr labels streak
  · exact State.transmitOk_congr queue fetch
  · rw [prof]
  · exact congrArg Calm.clock calm
  · exact congrArg Calm.resetN calm
  · exact congrArg Calm.surgeN calm
  · intro i hi; rwa [events]
  · exact State.stopOk_congr (congrArg Calm.stopView calm) surge (State.state_of_calm calm)

/-! ## Updates of one field -/

namespace Keeps

variable {s t : State} (h : Keeps s t)
include h

theorem bump {c : GCounter} {n : Nat} : Keeps s (t.bump c n) := h.congr (State.calm_bump t c n)
theorem respond {r : Response} : Keeps s (t.respond r) := h.congr (State.calm_respond t r)
theorem bumpPair {p : Pair} {c : PCounter} {n : Nat} : Keeps s (t.bumpPair p c n) := h.congr (State.calm_bumpPair t p c n)
theorem setDown {d : Label} {x : Option DownTx} : Keeps s (t.setDown d x) := h.congr (State.calm_setDown t d x)
theorem setLock {l : Option Lock} : Keeps s (t.setLock l) := h.congr (State.calm_setLock t l)
theorem setPointer {l : List PointerEntry} : Keeps s (t.setPointer l) := h.congr (State.calm_setPointer t l)
theorem post {x : Target} {v : List Word} : Keeps s (t.post x v) := h.congr (State.calm_post t x v)
theorem setWindow {w : List Pos} : Keeps s (t.setWindow w) := h.congr (State.calm_setWindow t w)
theorem aim : Keeps s t.aim := h.congr (State.calm_aim t)
theorem modDist {f : Dist → Dist} : Keeps s (t.modDist f) := h.congr (State.calm_modDist t f)
theorem reseq {x : Reseq} : Keeps s { t with reseq := x } := h.congr (State.calm_reseq t x)

/-- A change of a pair's record that keeps the pair's state. -/
theorem modPair {p : Pair} {f : PairRec → PairRec} (hf : ∀ r, (f r).state = r.state := by intro r; rfl) :
    Keeps s (t.modPair p f) := h.congr (State.calm_modPair t p f hf)

/-- A change of the Report Unit that keeps the event set. -/
theorem modRep {f : Report → Report} (hf : ∀ r, (f r).events = r.events := by intro r; rfl) : Keeps s (t.modRep f) :=
  h.congr (State.calm_modRep t f) (events := hf _)

/-- A change of the Submission Unit that keeps the length of its queue and whether a fetch is in flight. -/
theorem modSubm {f : Submission → Submission} (queue : ∀ u, (f u).queue.length = u.queue.length := by intro u; rfl)
    (fetch : ∀ u, (f u).fetch.isSome = u.fetch.isSome := by intro u; rfl) : Keeps s (t.modSubm f) :=
  h.congr (State.calm_modSubm t f) (queue := queue _) (fetch := fetch _)

/-- A change of the Submission Unit that keeps its bound. -/
theorem modSubm_bound {f : Submission → Submission} (bound : t.transmitOk → (t.modSubm f).transmitOk) : Keeps s (t.modSubm f) :=
  h.trans ⟨⟨⟨rfl, id, id, id, bound⟩, rfl, rfl, rfl, rfl, fun _ => id⟩, rfl, rfl, rfl, id⟩

/-- A change of the open upstream transactions that keeps their labels. -/
theorem setUp {l : List UpTx} (labels : l.map UpTx.label = t.path.up.map UpTx.label) : Keeps s (t.setUp l) :=
  h.congr (State.calm_setUp t l) (labels := labels)

/-- A change of the open upstream transactions that keeps their bound. -/
theorem setUp_bound {l : List UpTx} (bound : t.upstreamOk → (t.setUp l).upstreamOk) : Keeps s (t.setUp l) :=
  h.trans ⟨⟨⟨rfl, id, id, bound, id⟩, rfl, rfl, rfl, rfl, fun _ => id⟩, rfl, rfl, rfl, id⟩

/-- A change of the Delivery Unit that keeps the queue in step with its counts. -/
theorem deliv {x : Delivery} (inStep : t.deliveryOk → State.deliveryOk { t with deliv := x }) : Keeps s { t with deliv := x } :=
  h.trans ⟨⟨⟨rfl, id, inStep, id, id⟩, rfl, rfl, rfl, rfl, fun _ => id⟩, rfl, rfl, rfl, id⟩

/-- A change of the Memory Path beside the open upstream transactions and the streak. -/
theorem path {x : Path} (up : x.up = t.path.up := by rfl) (streak : x.streak = t.path.streak := by rfl) :
    Keeps s { t with path := x } := h.congr (State.calm_path t x) (labels := congrArg _ up) (streak := streak)

end Keeps

end Sys2Proof.Machine
end

section
/-! The Delivery Queue's moves keep the queue in step with its three counts (R95, R97, R106, R109 to R112). -/

-- Theorem by theorem: the check's thread stacks leave no memory for many proofs at once behind the slow tests.
set_option Elab.async false

namespace Sys2Proof.Machine

/-! ## The counts of a queue in step -/

/-- Counts within 64 of one base are equal only at one place. -/
theorem halfOf_add_inj (b : Half) (i j : Nat) (hi : i < 64) (hj : j < 64) (h : b + halfOf i = b + halfOf j) : i = j := by
  have e : halfOf i = halfOf j := by simpa using h
  have := congrArg BitVec.toNat e
  simp only [halfOf, BitVec.toNat_ofNat] at this
  omega

/-- A count is its distance from a base above the base. -/
theorem eq_add_distance (c b : Half) : c = b + halfOf (distance c b) := by
  apply BitVec.eq_of_toNat_eq
  simp only [distance, halfOf, BitVec.toNat_sub, BitVec.toNat_add, BitVec.toNat_ofNat]
  have := b.isLt
  have := c.isLt
  omega

/-- A count moved on by 1 is 1 farther from a base. -/
theorem distance_add_one (c b : Half) (h : distance c b < 65535) : distance (c + 1) b = distance c b + 1 := by
  have one : (1 : Half).toNat = 1 := rfl
  simp only [distance, BitVec.toNat_sub, BitVec.toNat_add, one] at h ⊢
  have := b.isLt
  have := c.isLt
  omega

/-- The distance of a count i above one base from a count D above it. -/
theorem distance_add_halfOf (b c : Half) (i : Nat) (hi : i < 65536) :
    distance (b + halfOf i) c = (i + 65536 - distance c b) % 65536 := by
  simp only [distance, halfOf, BitVec.toNat_sub, BitVec.toNat_add, BitVec.toNat_ofNat]
  have := b.isLt
  have := c.isLt
  omega

/-- The distance from a base that has moved on by n. -/
theorem distance_base_add (c b : Half) (n : Nat) (h : n ≤ distance c b) : distance c (b + halfOf n) = distance c b - n := by
  simp only [distance, halfOf, BitVec.toNat_sub, BitVec.toNat_add, BitVec.toNat_ofNat] at h ⊢
  have := b.isLt
  have := c.isLt
  omega

/-- Distances from a base, through a count between. -/
theorem distance_through (v c b : Half) (h : distance v c + distance c b < 65536) :
    distance v b = distance v c + distance c b := by
  simp only [distance, BitVec.toNat_sub] at h ⊢
  have := b.isLt
  have := c.isLt
  have := v.isLt
  omega

/-- A frame's count fixes its place in a queue in step. -/
theorem State.deliveryOk_place {s : State} (h : s.deliveryOk) {i j : Nat} {f g : FrameRec} (hi : s.deliv.queue[i]? = some f)
    (hj : s.deliv.queue[j]? = some g) (e : f.count = g.count) : i = j := by
  obtain ⟨bound, -, -, frames⟩ := h
  have li := (List.getElem?_eq_some_iff.1 hi).1
  have lj := (List.getElem?_eq_some_iff.1 hj).1
  rw [(frames i f hi).1, (frames j g hj).1] at e
  exact halfOf_add_inj _ i j (by omega) (by omega) e

/-- Frames of one count in a queue in step are one frame. -/
theorem State.deliveryOk_inj {s : State} (h : s.deliveryOk) {f g : FrameRec} (hf : f ∈ s.deliv.queue) (hg : g ∈ s.deliv.queue)
    (e : f.count = g.count) : f = g := by
  obtain ⟨i, hi⟩ := List.getElem?_of_mem hf
  obtain ⟨j, hj⟩ := List.getElem?_of_mem hg
  have := State.deliveryOk_place h hi hj e
  subst this
  exact Option.some.inj (hi.symm.trans hj)

/-! ## Changes of records in place -/

/-- A change of each record that keeps its count and whether it is retiring keeps the queue in step. -/
theorem State.deliveryOk_map {s : State} (g : FrameRec → FrameRec)
    (hg : ∀ f ∈ s.deliv.queue, (g f).count = f.count ∧ (g f).retiring = f.retiring) (h : s.deliveryOk) :
    (s.setQueue (s.deliv.queue.map g)).deliveryOk := by
  obtain ⟨bound, produced, consumed, frames⟩ := h
  refine ⟨by simpa using bound, by simpa using produced, by simpa using consumed, ?_⟩
  intro i f hf
  simp only [State.setQueue_deliv, List.getElem?_map, Option.map_eq_some_iff] at hf
  obtain ⟨x, hx, rfl⟩ := hf
  obtain ⟨count, retiring⟩ := hg x (List.mem_of_getElem? hx)
  rw [count, retiring]
  exact frames i x hx

theorem State.deliveryOk_modFrame {s : State} (c : Half) (g : FrameRec → FrameRec)
    (hg : ∀ f, (g f).count = f.count ∧ (g f).retiring = f.retiring) (h : s.deliveryOk) : (s.modFrame c g).deliveryOk := by
  refine State.deliveryOk_map _ (fun f _ => ?_) h
  split
  · exact hg f
  · exact ⟨rfl, rfl⟩

/-- The record of one count replaced by one of the same count and mark. -/
theorem State.deliveryOk_replace {s : State} (f g : FrameRec) (hf : f ∈ s.deliv.queue) (count : g.count = f.count)
    (retiring : g.retiring = f.retiring) (h : s.deliveryOk) :
    (s.setQueue (s.deliv.queue.map fun x => if x.count = f.count then g else x)).deliveryOk := by
  refine State.deliveryOk_map _ (fun x hx => ?_) h
  split
  · next e =>
    obtain rfl := State.deliveryOk_inj h hx hf e
    exact ⟨count, retiring⟩
  · exact ⟨rfl, rfl⟩

/-! ## A frame joins (R97) -/

theorem State.deliveryOk_join {s : State} (f : FrameRec) (room : s.deliv.queue.length < 64) (count : f.count = s.deliv.producer)
    (live : f.retiring = false) (h : s.deliveryOk) :
    State.deliveryOk { s with deliv := { s.deliv with queue := s.deliv.queue ++ [f], producer := s.deliv.producer + 1 } } := by
  obtain ⟨bound, produced, consumed, frames⟩ := h
  have next : s.deliv.producer = s.deliv.oldest + halfOf s.deliv.queue.length := by
    rw [← produced]
    exact eq_add_distance _ _
  refine ⟨?_, ?_, ?_, ?_⟩
  · simp only [List.length_append, List.length_singleton]; omega
  · simp only [List.length_append, List.length_singleton]
    rw [distance_add_one _ _ (by omega), produced]
  · simp only [List.length_append, List.length_singleton]; omega
  · intro i x hx
    simp only [List.getElem?_append] at hx
    split at hx
    · exact frames i x hx
    · next hl =>
      have hi : i = s.deliv.queue.length := by
        have := (List.getElem?_eq_some_iff.1 hx).1
        simp at this; omega
      subst hi
      simp only [Nat.sub_self, List.getElem?_cons_zero, Option.some.injEq] at hx
      subst hx
      refine ⟨count.trans next, ?_⟩
      simp only [live, Bool.false_eq_true, false_iff, Nat.not_lt]
      exact consumed

/-! ## Frames retire and leave (R109 to R111) -/

/-- The consumer count moves on by a, and the a frames from the old one on are marked (R109, R110). -/
theorem State.deliveryOk_consume {s : State} (v : Half)
    (valid : distance v s.deliv.consumer ≤ distance s.deliv.producer s.deliv.consumer) (h : s.deliveryOk) :
    State.deliveryOk { s with deliv := { s.deliv with
      queue := s.deliv.queue.map fun f =>
        if distance f.count s.deliv.consumer < distance v s.deliv.consumer then { f with retiring := true } else f
      consumer := v } } := by
  obtain ⟨bound, produced, consumed, frames⟩ := h
  have outstanding : distance s.deliv.producer s.deliv.consumer =
      s.deliv.queue.length - distance s.deliv.consumer s.deliv.oldest := by
    rw [← produced] at consumed ⊢
    simp only [distance, BitVec.toNat_sub] at consumed ⊢
    have := s.deliv.producer.isLt
    have := s.deliv.oldest.isLt
    have := s.deliv.consumer.isLt
    omega
  have moved := distance_through v s.deliv.consumer s.deliv.oldest (by omega)
  refine ⟨by simpa using bound, by simpa using produced, ?_, ?_⟩
  · simp only [List.length_map]; omega
  · intro i f hf
    simp only [List.getElem?_map, Option.map_eq_some_iff] at hf
    obtain ⟨x, hx, rfl⟩ := hf
    have hi := (List.getElem?_eq_some_iff.1 hx).1
    obtain ⟨count, retiring⟩ := frames i x hx
    have far := distance_add_halfOf s.deliv.oldest s.deliv.consumer i (by omega)
    rw [← count] at far
    simp only [moved]
    split
    · refine ⟨count, ?_⟩
      simp only [true_iff]
      omega
    · refine ⟨count, retiring.trans ?_⟩
      omega

/-- RELEASED records leave from the old end (R111). -/
theorem State.deliveryOk_leave {s : State} (n : Nat) (h : s.deliveryOk) :
    let rest := s.deliv.queue.dropWhile FrameRec.released
    State.deliveryOk { s with deliv := { s.deliv with
      queue := rest, oldest := s.deliv.oldest + halfOf (s.deliv.queue.length - rest.length), roomNotices := n } } := by
  intro rest
  obtain ⟨bound, produced, consumed, frames⟩ := h
  have split : s.deliv.queue.takeWhile FrameRec.released ++ rest = s.deliv.queue := List.takeWhile_append_dropWhile
  have length : (s.deliv.queue.takeWhile FrameRec.released).length + rest.length = s.deliv.queue.length := by
    rw [← List.length_append, split]
  have gone : s.deliv.queue.length - rest.length = (s.deliv.queue.takeWhile FrameRec.released).length := by omega
  rw [gone]
  generalize hk : (s.deliv.queue.takeWhile FrameRec.released).length = k at *
  have retired : k ≤ distance s.deliv.consumer s.deliv.oldest := by
    cases k with
    | zero => exact Nat.zero_le _
    | succ k =>
      have hlt : k < (s.deliv.queue.takeWhile FrameRec.released).length := by omega
      have last : s.deliv.queue[k]? = some (s.deliv.queue.takeWhile FrameRec.released)[k] := by
        calc s.deliv.queue[k]? = (s.deliv.queue.takeWhile FrameRec.released ++ rest)[k]? := by rw [split]
          _ = _ := by rw [List.getElem?_append_left hlt, List.getElem?_eq_getElem hlt]
      have rel : FrameRec.released (s.deliv.queue.takeWhile FrameRec.released)[k] = true :=
        List.all_eq_true.1 List.all_takeWhile _ (List.getElem_mem hlt)
      have : (s.deliv.queue.takeWhile FrameRec.released)[k].retiring = true := by
        unfold FrameRec.released at rel
        exact (Bool.and_eq_true_iff.1 rel).1
      exact (frames k _ last).2.1 this
  have consumer := distance_base_add s.deliv.consumer s.deliv.oldest k retired
  have producer := distance_base_add s.deliv.producer s.deliv.oldest k (by omega)
  refine ⟨?_, ?_, ?_, ?_⟩
  · simp only; omega
  · simp only [producer]; omega
  · simp only [consumer]; omega
  · intro i f hf
    have place : s.deliv.queue[k + i]? = some f := by
      rw [← split, List.getElem?_append_right (by omega), hk, Nat.add_sub_cancel_left]
      exact hf
    obtain ⟨count, retiring⟩ := frames (k + i) f place
    simp only [consumer]
    refine ⟨?_, retiring.trans ?_⟩
    · rw [count, BitVec.add_assoc]
      congr 1
      simp [halfOf, BitVec.ofNat_add]
    · omega

end Sys2Proof.Machine
end

section
/-! What the operations of the blocks keep: one lemma for each operation that neither resets nor belongs to the Profile Unit, the Timebase or
the Surge Monitor. A proof follows its operation's definition, one link of the chain for each step of it. -/

-- Theorem by theorem: the check's thread stacks leave no memory for many proofs at once behind the slow tests.
set_option Elab.async false

namespace Sys2Proof.Machine

/-- Under the stop every pair is OUT or HELD, so with a pair in another state the stop is not in force (R180). -/
theorem State.stop_of_state {s : State} {p : Pair} (h : s.stopOk) (notOut : (s.pair p).state ≠ .out)
    (notHeld : (s.pair p).state ≠ .held) : s.surge.stop = false := by
  cases inForce : s.surge.stop with
  | false => rfl
  | true => exact (((h.2 p).1 inForce).elim notOut notHeld).elim

namespace Keeps

variable {s t : State} (h : Keeps s t)
include h

/-! ## Postings and events -/

theorem postWord {o : Nat} {w : Word} : Keeps s (t.postWord o w) := by
  unfold State.postWord
  split
  · exact h.post
  · exact h

theorem postCount {o : Nat} {c : Half} : Keeps s (t.postCount o c) := h.postWord

theorem postEventWord : Keeps s t.postEventWord := by
  unfold State.postEventWord
  split
  · split
    · exact h.modRep (f := fun r => { r with repost := true })
    · exact h.post
  · exact h

/-- A flag set in the event set, with ATTN_N recomputed (R208). -/
theorem setEvent {e : Event} : Keeps s (t.setEvent e) := by
  refine h.trans ⟨⟨⟨rfl, fun _ => ?attn, id, id, id⟩, rfl, rfl, rfl, rfl, ?events⟩, rfl, rfl, rfl, id⟩
  case attn =>
    show (decide _ = true) ↔ _
    rw [decide_eq_true_iff]
    rfl
  case events =>
    intro i hi
    rw [State.setEvent_rep, BitVec.getLsbD_or, hi, Bool.true_or]

theorem raise {e : Event} : Keeps s (t.raise e) := h.setEvent.postEventWord

/-! ## Open upstream transactions -/

theorem setStage {l : Label} {g : UpStage} : Keeps s (t.setStage l g) := by
  refine h.setUp ?_
  rw [List.map_map]
  congr 1
  funext x
  simp only [Function.comp]
  split <;> rfl

/-- Transactions that are closed leave the others open (R1). -/
theorem closeUp {r : Response} : Keeps s (t.closeUp r) := by
  have closed : Keeps s (t.setUp (t.path.up.filter fun x => x.label ≠ r.label)) :=
    h.setUp_bound fun ⟨bound, labels, streak⟩ =>
      ⟨Nat.le_trans (List.length_filter_le _ _) bound, labels.sublist (List.filter_sublist.map _), streak⟩
  exact closed.respond

/-- A transaction is opened where there is room and its label is free (R1). -/
theorem openUp {x : UpTx} (room : t.canTake x.label = true) : Keeps s (t.openUp x) := by
  have ⟨free, new⟩ := Bool.and_eq_true_iff.1 room
  refine h.setUp_bound fun ⟨_, labels, streak⟩ => ⟨?_, ?_, streak⟩
  · simp only [decide_eq_true_iff] at free
    simp only [State.setUp_path, List.length_append, List.length_singleton]
    omega
  · simp only [State.setUp_path, List.map_append, List.pairwise_append, List.map_cons, List.map_nil, List.pairwise_singleton,
      true_and, List.mem_singleton, List.mem_map]
    refine ⟨labels, ?_⟩
    rintro _ ⟨y, hy, rfl⟩ _ rfl
    have := List.find?_eq_none.1 (Option.isNone_iff_eq_none.1 new) y hy
    simpa using this

/-! ## Frees (R30 to R32) -/

theorem releaseAdvance {p : Pair} : Keeps s (t.releaseAdvance p) := by
  unfold State.releaseAdvance
  split
  · exact h
  · exact h.modPair.postCount

theorem drainedNotice {p : Pair} {b : Bool} : Keeps s (t.drainedNotice p b) := by
  unfold State.drainedNotice
  split
  · exact h.modPair
  · exact h

theorem vacate {p : Pair} {c : Nat} : Keeps s (t.vacate p c) := h.modPair.drainedNotice

theorem cellFree {p : Pair} {c : Nat} : Keeps s (t.cellFree p c) := h.vacate.releaseAdvance

theorem freeUse {p : Pair} {c : Nat} {u : Half} : Keeps s (t.freeUse p c u) := by
  unfold State.freeUse
  (repeat' split)
  · exact h.cellFree
  · exact h
  · exact h

theorem passCell {p : Pair} {c : Nat} {u : Half} : Keeps s (t.passCell p c u) := by
  unfold State.passCell
  (repeat' split)
  · exact h.modPair
  · exact h
  · exact h

/-! ## Ends and starts of landings (R36, R37, R44) -/

theorem forgetLearned {p : Pair} : Keeps s (t.forgetLearned p) := h.modPair fun r => r.state_forgetLearned

theorem endLanding {p : Pair} : Keeps s (t.endLanding p) := h.modPair.cellFree

theorem landingOut {p : Pair} : Keeps s (t.landingOut p) := by
  unfold State.landingOut
  refine modPair ?_
  split
  · exact h
  · exact h.bumpPair.endLanding
  · exact h.bumpPair.endLanding
  · exact h.endLanding

theorem landingStart {p : Pair} : Keeps s (t.landingStart p) := by
  unfold State.landingStart
  simp only []
  split
  · exact h.modPair
  · exact h.modPair.postCount

theorem buildRing {p : Pair} {n : Nat} : Keeps s (t.buildRing p n) := h.modPair

/-! ## The Delivery Unit (chapter 5) -/

theorem postRecord {f : FrameRec} : Keeps s (t.postRecord f) := by
  unfold State.postRecord
  split
  · exact h.post
  · exact h

theorem postProducer : Keeps s t.postProducer := h.postCount

theorem postDeliveryCounts : Keeps s t.postDeliveryCounts := h.postProducer.postWord

theorem postDeliveryRing : Keeps s t.postDeliveryRing :=
  postDeliveryCounts (h.foldl _ (fun u _ => (refl u).postRecord) _)

/-- A frame is taken by a queue with room (R97). -/
theorem takeFrame {l : List FragEntry} (room : t.deliv.hasRoom = true) : Keeps s (t.takeFrame l) := by
  have joined := h.deliv (State.deliveryOk_join (t.frameOf l) (by simpa [Delivery.hasRoom] using room) rfl rfl)
  exact foldl joined.postRecord.postProducer.raise.bump _ (fun u _ => (refl u).passCell) l

theorem freeFragments {l : List FragEntry} : Keeps s (t.freeFragments l) := by
  refine h.foldl _ (fun u e => ?_) l
  split
  · exact refl u
  · exact (refl u).freeUse

theorem leaveQueue : Keeps s t.leaveQueue := by
  unfold State.leaveQueue
  simp only []
  split
  · exact h
  · exact h.deliv (State.deliveryOk_leave _)

theorem modFrame {c : Half} {g : FrameRec → FrameRec}
    (hg : ∀ f, (g f).count = f.count ∧ (g f).retiring = f.retiring := by intro f; exact ⟨rfl, rfl⟩) : Keeps s (t.modFrame c g) :=
  h.deliv (State.deliveryOk_modFrame c g hg)

theorem deliveryVoid {p : Pair} {c : Nat} {u : Half} : Keeps s (t.deliveryVoid p c u) := by
  unfold State.deliveryVoid
  split
  · exact h
  · next f found =>
    have voided : Keeps s (t.setQueue (t.deliv.queue.map fun x => if x.count = f.count then f.voided p c u else x)) :=
      h.deliv (State.deliveryOk_replace f (f.voided p c u) (List.mem_of_find?_eq_some found) rfl rfl)
    simp only []
    split
    · exact voided.postRecord.raise
    · exact voided.postRecord.raise.bump

theorem dropPin {c : Half} : Keeps s (t.dropPin c) := by
  unfold State.dropPin
  simp only []
  (repeat' split)
  · exact h.modFrame.freeFragments.leaveQueue
  · exact h.modFrame
  · exact h.modFrame

theorem answerRedirect {x : UpTx} {r : Redirect} : Keeps s (t.answerRedirect x r) := by
  unfold State.answerRedirect
  (repeat' split)
  · exact h.closeUp.bump.raise.dropPin
  · exact h.closeUp.dropPin
  · exact h.closeUp.dropPin

theorem pieceEnded {l : Label} {b : Bool} {w : Option (List Word)} : Keeps s (t.pieceEnded l b w) := by
  unfold State.pieceEnded
  split
  · exact h
  · next x _ =>
    have counted : ∀ (c : Prop) (_ : Decidable c), Keeps s (if c then t.bump .readFault else t) := fun c _ => by
      split
      · exact h.bump
      · exact h
    have ended : ∀ (r r' : Redirect),
        Keeps s (let u := (if r'.faulted && !r.faulted then t.bump .readFault else t).setStage l (.redirected r')
          if r'.complete then u.answerRedirect x r' else u) := fun r r' => by
      simp only []
      split
      · exact (counted _ _).setStage.answerRedirect
      · exact (counted _ _).setStage
    split
    · exact ended _ _
    · exact h

/-! ## The Resequencer (chapters 3 and 4) -/

theorem moveHead {n : Nat} : Keeps s (t.moveHead n) := by
  refine forPairs ?_ _ (fun u _ => (refl u).modPair)
  exact h.reseq

theorem passLost {n : Nat} : Keeps s (t.passLost n) := by
  refine moveHead ?_
  exact reseq (h.bump (c := .lostSequence) (n := n))

theorem passOrphan {r : Landed} : Keeps s (t.passOrphan r) := h.freeUse.bump.moveHead

theorem discardHead {r : Landed} {c : GCounter} : Keeps s (t.discardHead r c) := by
  refine moveHead ?_
  exact reseq (h.freeUse.bump (c := c) (n := 1))

theorem handOff {n : Nat} (room : t.deliv.hasRoom = true) : Keeps s (t.handOff n) := by
  refine moveHead ?_
  exact reseq ((h.takeFrame room).bump (c := .framesAssembled) (n := 1))

theorem block : Keeps s t.block := reseq (h.bump (c := .blocked) (n := 1))

end Keeps

/-- Head processing keeps what each of its looks keeps (R59). -/
theorem Keeps.headRun (n : Nat) {s t : State} (h : Keeps s t) : Keeps s (State.headRun n t) := by
  induction n generalizing t with
  | zero => exact h
  | succ n ih =>
    unfold State.headRun
    (repeat' split)
    · exact ih h.passLost
    · exact h
    · exact ih h.discardHead
    · exact ih h.discardHead
    · exact ih h.discardHead
    · next room => exact ih (h.handOff room)
    · exact h.block
    · exact ih h.passOrphan
    · exact h

namespace Keeps

variable {s t : State} (h : Keeps s t)
include h

theorem headProcess : Keeps s t.headProcess := headRun 513 h.reseq

theorem settle : Keeps s t.settle := h.headProcess.aim

theorem declare {n : Nat} : Keeps s (t.declare n) := h.setWindow

theorem close : Keeps s t.close := by
  unfold State.close
  simp only []
  (repeat' split)
  · exact h
  · exact h.declare.bump.raise
  · exact h

theorem closeOnDeparture {p : Pair} : Keeps s (t.closeOnDeparture p) := by
  unfold State.closeOnDeparture
  simp only []
  split
  · exact h.modPair
  · exact h.modPair.close.settle

theorem skewExpire {k : Skew} : Keeps s (t.skewExpire k) := h.declare.bump.bump.raise.settle

theorem clearPosition {x : Pos} : Keeps s (t.clearPosition x) := by
  unfold State.clearPosition
  split
  · exact h.freeUse.bump
  · exact h

theorem windowClear : Keeps s t.windowClear := by
  refine forPairs ?_ _ (fun u _ => (refl u).modPair)
  exact reseq (h.foldl State.clearPosition (fun u _ => (refl u).clearPosition) t.positions)

theorem bondClear : Keeps s t.bondClear := reseq h.windowClear

theorem receiveRestart {g : Byte} : Keeps s (t.receiveRestart g) := reseq (h.windowClear.bump (c := .receiveRestart) (n := 1))

theorem windowVoid {p : Pair} {c : Nat} {u : Half} : Keeps s (t.windowVoid p c u) := by
  unfold State.windowVoid
  split
  · exact h.setWindow.settle
  · exact h

theorem dropData {a : DataRecord} {c : PCounter} : Keeps s (t.dropData a c) := h.bumpPair.cellFree

theorem landAt {a : DataRecord} {d : Nat} : Keeps s (t.landAt a d) := by
  unfold State.landAt
  simp only []
  refine modPair h.setWindow fun r => ?_
  split <;> rfl

theorem enterWindow {a : DataRecord} {d : Nat} : Keeps s (t.enterWindow a d) := by
  unfold State.enterWindow
  simp only []
  split
  · exact h.landAt.settle
  · exact h.landAt.close.settle

end Keeps

/-- The walk of a forced advance keeps what each of its steps keeps (R86, R87). -/
theorem Keeps.forcedWalk (n m : Nat) {s t : State} (h : Keeps s t) : Keeps s (State.forcedWalk n m t) := by
  induction n generalizing m t with
  | zero => exact h
  | succ n ih =>
    cases m with
    | zero => exact h
    | succ m =>
      have d : Keeps s (t.declare (m + 1)) := h.declare
      unfold State.forcedWalk
      simp only []
      (repeat' split)
      · exact ih _ d.discardHead
      · exact ih _ d.discardHead
      · exact ih _ d.discardHead
      · exact ih _ d.discardHead
      · next room => exact ih _ (d.handOff room)
      · exact ih _ d.discardHead
      · exact ih _ d.passOrphan
      · exact ih _ d.passLost

namespace Keeps

variable {s t : State} (h : Keeps s t)
include h

theorem forcedAdvance {a : DataRecord} {d : Nat} : Keeps s (t.forcedAdvance a d) :=
  (forcedWalk _ _ h.bump).enterWindow.bump.raise

theorem placeData {a : DataRecord} : Keeps s (t.placeData a) := by
  unfold State.placeData
  simp only []
  (repeat' split)
  · exact h.enterWindow
  · exact h.dropData
  · exact h.dropData
  · exact h.dropData
  · exact h.forcedAdvance
  · exact h.dropData

theorem admitData {a : DataRecord} : Keeps s (t.admitData a) := by
  unfold State.admitData
  (repeat' split)
  · exact h.dropData
  · exact h.receiveRestart.placeData
  · exact h.placeData
  · exact h.dropData
  · exact h.reseq.placeData

/-! ## The Submission Unit (chapter 6) -/

theorem recount : Keeps s t.recount := h.modSubm

theorem complete {a : Nat} {st : Status} {f : Nat} {v : Half} : Keeps s (t.complete a st f v) := h.post.raise.bump

/-- A change of the Submission Unit that takes nothing into its queue and offers no fetch. -/
theorem modSubm_fewer {f : Submission → Submission}
    (queue : ∀ u, (f u).queue.length ≤ u.queue.length := by intro u; exact Nat.le_refl _)
    (fetch : ∀ u, (f u).fetch.isSome = true → u.fetch.isSome = true := by intro u; exact nofun) : Keeps s (t.modSubm f) := by
  refine h.modSubm_bound fun bound => ?_
  have fewer := queue t.subm
  have offered := fetch t.subm
  unfold State.transmitOk at bound ⊢
  rw [State.modSubm_subm]
  split
  · next e => rw [if_pos (offered e)] at bound; omega
  · split at bound <;> omega

theorem completeEntry {e : TxEntry} {st : Status} : Keeps s (t.completeEntry e st) :=
  recount (complete (h.modSubm_fewer (by intro u; exact List.length_filter_le _ _) (by intro u; exact id)))

theorem takeProducer {v : Half} : Keeps s (t.takeProducer v) := by
  unfold State.takeProducer
  split
  · exact h.bump.raise
  · exact h.modSubm

/-- A fetch is offered where the queue has room for its record (R122). -/
theorem offerFetch (room : t.subm.canFetch = true) : Keeps s t.offerFetch := by
  simp only [Submission.canFetch, Bool.and_eq_true, decide_eq_true_iff] at room
  obtain ⟨_, short⟩ := room
  unfold State.offerFetch
  split
  · exact h
  · refine (h.modSubm_bound fun _ => ?_).recount.bump
    simp only [State.transmitOk, State.modSubm_subm, Option.isSome_some, if_true]
    omega

/-- A fetched record takes the place of its fetch (R123). -/
theorem fetched {f : Fetch} {r : SubmissionRecord} (inFlight : t.subm.fetch.isSome = true) : Keeps s (t.fetched f r) := by
  unfold State.fetched
  simp only []
  split
  · exact h.modSubm_fewer.recount.complete
  · refine recount ((h.modSubm_bound (f := fun u => { u with fetch := none, queue := u.queue ++ [_] }) fun bound => ?_))
    simp only [State.transmitOk, inFlight, if_true] at bound
    simpa [State.transmitOk] using bound

theorem fetchFailed {f : Fetch} : Keeps s (t.fetchFailed f) :=
  h.modSubm_fewer.recount.complete.bump

theorem modEntry {n : Half} {f : TxEntry → TxEntry} : Keeps s (t.modEntry n f) := by
  refine h.modSubm (fun u => ?_)
  exact List.length_map _

theorem expireAge {n : Half} : Keeps s (t.expireAge n) := by
  unfold State.expireAge
  split
  · exact h.completeEntry
  · exact h

theorem takeRing : Keeps s t.takeRing := h.modSubm

theorem ringChanged : Keeps s t.ringChanged := by
  unfold State.ringChanged
  split
  · exact h.takeRing
  · exact h.modSubm

theorem abortWaiting : Keeps s t.abortWaiting := h.foldl _ (fun u _ => (refl u).completeEntry) _

/-! ## The Distributor (chapter 7) -/

theorem postAlloc {p : Pair} : Keeps s (t.postAlloc p) := h.postWord

theorem postTxCounts {p : Pair} : Keeps s (t.postTxCounts p) := h.postCount.postCount

theorem reallocate {p : Pair} {a : Alloc} : Keeps s (t.reallocate p a) := by
  unfold State.reallocate
  split
  · exact h
  · exact h.modPair.postTxCounts

theorem installTarget {g : AllocTarget} : Keeps s (t.installTarget g) :=
  bump (forPairs (modDist (h.forPairs _ fun u _ => (refl u).reallocate)) _ fun u _ => (refl u).postAlloc)

theorem postTransmitWords : Keeps s t.postTransmitWords := h.forPairs _ fun u _ => (refl u).postTxCounts.postAlloc

theorem takeTxConsumer {p : Pair} {v : Half} : Keeps s (t.takeTxConsumer p v) := by
  unfold State.takeTxConsumer
  split
  · exact h.bumpPair.raise
  · exact h.modPair

theorem transmitStart {p : Pair} : Keeps s (t.transmitStart p) := h.modPair.modDist.postTxCounts.postAlloc

theorem giveUpCell {w : Work} : Keeps s (t.giveUpCell w) := by
  refine modDist ?_
  split
  · exact h
  · exact h.modPair

theorem endAbandoned {w : Work} : Keeps s (t.endAbandoned w) := by
  unfold State.endAbandoned
  simp only []
  split
  · exact h.giveUpCell.bumpPair.modDist
  · exact h.giveUpCell.bumpPair

theorem abandonWork {w : Work} : Keeps s (t.abandonWork w) := by
  unfold State.abandonWork
  split
  · exact h.modDist
  · exact h.endAbandoned

theorem recheckWork : Keeps s t.recheckWork := by
  unfold State.recheckWork
  (repeat' split)
  · exact h
  · exact h.abandonWork
  · exact h

theorem abandonData : Keeps s t.abandonData := by
  unfold State.abandonData
  (repeat' split)
  · exact h.abandonWork
  · exact h
  · exact h

theorem releaseFrame {st : Status} : Keeps s (t.releaseFrame st) := by
  unfold State.releaseFrame
  (repeat' split)
  · exact h
  · exact h
  · exact h.modEntry.modDist.abandonData

theorem closeFrame {n : Half} {st : Status} : Keeps s (t.closeFrame n st) := by
  unfold State.closeFrame
  simp only []
  split
  · exact h.modDist.completeEntry
  · exact h.modDist

theorem copyFault {w : Work} : Keeps s (t.copyFault w) := by
  unfold State.copyFault
  simp only []
  split
  · exact h.giveUpCell.bump.closeFrame
  · exact h.giveUpCell.bump

theorem copierFailed {w : Work} : Keeps s (t.copierFailed w) := by
  unfold State.copierFailed
  (repeat' split)
  · exact h.endAbandoned
  · exact h.copyFault
  · exact h.giveUpCell.bumpPair

theorem round : Keeps s t.round := by
  refine h.forPairs _ fun u p => ?_
  split
  · exact (refl u).modPair
  · exact refl u

end Keeps

theorem Keeps.replenish (c : Cut) (n : Nat) {s t : State} (h : Keeps s t) : Keeps s (State.replenish c n t) := by
  induction n generalizing t with
  | zero => exact h
  | succ n ih =>
    unfold State.replenish
    split
    · exact h
    · exact ih h.round.bump

namespace Keeps

variable {s t : State} (h : Keeps s t)
include h

theorem takeWork {w : Work} : Keeps s (t.takeWork w) := h.modPair.modDist

theorem takeFragment {b : Nat} {p : Pair} {f : Frag} : Keeps s (t.takeFragment b p f) := by
  unfold State.takeFragment
  simp only []
  exact h.takeWork.modPair.modDist

theorem placeNew {c : Cut} : Keeps s (t.placeNew c) := by
  unfold State.placeNew
  simp only []
  split
  · exact (h.replenish c 16).takeFragment.modDist.modEntry
  · exact h.replenish c 16

theorem placeOld {c : Cut} : Keeps s (t.placeOld c) := by
  unfold State.placeOld
  simp only []
  split
  · refine modEntry (modDist ?_)
    split
    · exact (h.replenish c 16).takeFragment.bump
    · exact (h.replenish c 16).takeFragment.bump.bump
  · exact h.replenish c 16

theorem placeControl {k : WorkKind} {p : Pair} {l : List Word} : Keeps s (t.placeControl k p l) := h.takeWork.modDist

theorem placeStatus {p : Pair} : Keeps s (t.placeStatus p) := by
  unfold State.placeStatus
  simp only []
  exact h.placeControl.modPair

theorem placeProve {p : Pair} : Keeps s (t.placeProve p) := by
  unfold State.placeProve
  simp only []
  exact h.placeControl.modPair

theorem copierReadOk {w : Work} {l : List Word} : Keeps s (t.copierReadOk w l) := by
  unfold State.copierReadOk
  split
  · exact h.endAbandoned
  · exact h.modDist

theorem publishCell {w : Work} : Keeps s (t.publishCell w) := by
  refine postCount (modDist (modPair h fun r => ?_))
  simp only []
  split <;> rfl

theorem publishData {w : Work} {f : Frag} : Keeps s (t.publishData w f) := by
  unfold State.publishData
  simp only []
  (repeat' split)
  · exact h.publishCell.bumpPair.modEntry.closeFrame
  · exact h.publishCell.bumpPair.modEntry
  · exact h.publishCell.bumpPair

theorem publishProve {w : Work} : Keeps s (t.publishProve w) := by
  refine modPair h.publishCell fun r => ?_
  simp only []
  split <;> rfl

theorem publish {w : Work} : Keeps s (t.publish w) := by
  unfold State.publish
  (repeat' split)
  · exact h.publishData
  · exact h.endAbandoned
  · exact h.publishCell.bumpPair
  · exact h.publishProve

theorem copierWriteOk {w : Work} {n : Nat} : Keeps s (t.copierWriteOk w n) := by
  unfold State.copierWriteOk
  simp only []
  split
  · exact h.endAbandoned
  · split
    · exact h.modDist
    · exact h.publish

theorem setGeneration {b : Bool} {g : Byte} : Keeps s (t.setGeneration b g) := by
  unfold State.setGeneration
  split
  · exact h
  · exact h.modDist.bump

theorem transmitRestart : Keeps s t.transmitRestart :=
  releaseFrame (h.modDist.forPairs _ fun u _ => (refl u).modPair)

theorem selectFrame {e : TxEntry} : Keeps s (t.selectFrame e) := h.modEntry.modDist

theorem capCredits : Keeps s t.capCredits := h.forPairs _ fun u _ => (refl u).modPair

/-! ## The Report Unit (section 10.4) -/

theorem postPublication {i : Nat} : Keeps s (t.postPublication i) := h.modRep

theorem startPublication : Keeps s t.startPublication := h.modRep.postPublication

theorem becomeDue : Keeps s t.becomeDue := by
  unfold State.becomeDue
  simp only []
  split
  · exact h.modRep
  · exact h.modRep.startPublication

theorem publicationCause : Keeps s t.publicationCause := by
  unfold State.publicationCause
  (repeat' split)
  · exact h.becomeDue
  · exact h.bump
  · exact h.bump
  · exact h.modRep

theorem releaseHeld : Keeps s t.releaseHeld := by
  refine h.setUp ?_
  rw [List.map_map]
  congr 1
  funext x
  simp only [Function.comp]
  split <;> rfl

theorem afterPublication : Keeps s t.afterPublication := by
  unfold State.afterPublication
  simp only []
  split
  · exact h.modRep.becomeDue
  · exact h.modRep

theorem endPublication : Keeps s t.endPublication := by
  unfold State.endPublication
  simp only []
  split
  · exact h.modRep.postEventWord.bump.afterPublication
  · exact h.modRep.postEventWord.bump

theorem publicationAnswered {b : Bool} : Keeps s (t.publicationAnswered b) := by
  have counted : Keeps s (if b = true then t else t.bump .publishFault) := by
    split
    · exact h
    · exact h.bump
  unfold State.publicationAnswered
  simp only []
  generalize (if b = true then t else t.bump .publishFault) = u at counted ⊢
  (repeat' split)
  · exact counted.postPublication
  · exact counted.endPublication
  · exact counted

theorem oneShot : Keeps s t.oneShot := by
  unfold State.oneShot
  split
  · exact h.bump
  · exact h.publicationCause

theorem reportModeChange {n : Nat} : Keeps s (t.reportModeChange n) := by
  have timed : ∀ a b : Prop, ∀ (_ : Decidable a) (_ : Decidable b) (f g : Report → Report), (∀ r, (f r).events = r.events) →
      (∀ r, (g r).events = r.events) → Keeps s (if a then if b then t else t.modRep f else t.modRep g) := by
    intro a b _ _ f g hf hg
    (repeat' split)
    · exact h
    · exact h.modRep hf
    · exact h.modRep hg
  have started := timed (t.prof.active.reportMode = 1) (n = 1) inferInstance inferInstance
    (fun r => { r with timer := some (t.now + t.prof.active.reportInterval) }) (fun r => { r with timer := none })
    (fun _ => rfl) (fun _ => rfl)
  unfold State.reportModeChange
  simp only []
  split
  · split
    · exact started.modRep.releaseHeld
    · exact started.modRep
    · exact started
  · exact started

end Keeps

end Sys2Proof.Machine
end

section
/-! What the Pair Supervisor, the Landing Unit's arrivals and the Memory Path keep (chapters 1, 2 and 8). A change of a pair's state keeps the
stop's view where the new state suits the stop in force. -/

-- Theorem by theorem: the check's thread stacks leave no memory for many proofs at once behind the slow tests.
set_option Elab.async false

namespace Sys2Proof.Machine

/-! ## Frames given back (R110) -/

/-- The frees of a fragment list change the pairs and the Pointer Writer's list at most. -/
theorem State.freeFragments_frame (s : State) (l : List FragEntry) :
    ∃ v p, s.freeFragments l = ({ s with pairs := v } : State).setPointer p := by
  unfold State.freeFragments
  induction l generalizing s with
  | nil => exact ⟨s.pairs, s.path.pointer, rfl⟩
  | cons e es ih =>
    rw [List.foldl_cons]
    split
    · exact ih s
    · obtain ⟨v, p, freed⟩ := s.freeUse_frame e.pair e.cell e.use
      obtain ⟨w, q, rest⟩ := ih (s.freeUse e.pair e.cell e.use)
      exact ⟨w, q, by rw [rest, freed]; rfl⟩

/-- What retiring changes: the marks of the frames it names, the cells they free, and FRAMES_RETIRED. -/
theorem State.retire_frame (s : State) (a : Nat) :
    ∃ v p, s.retire a = ({ s with pairs := v, counters := (s.bump .framesRetired a).counters, deliv := { s.deliv with
      queue := s.deliv.queue.map fun f => if distance f.count s.deliv.consumer < a then { f with retiring := true } else f } } :
        State).setPointer p := by
  have frees : ∀ (l : List FrameRec) (t : State), ∃ v p,
      l.foldl (fun t f => if f.pins = 0 then t.freeFragments f.fragments else t) t = ({ t with pairs := v } : State).setPointer p := by
    intro l
    induction l with
    | nil => exact fun t => ⟨t.pairs, t.path.pointer, rfl⟩
    | cons f fs ih =>
      intro t
      rw [List.foldl_cons]
      split
      · obtain ⟨v, p, freed⟩ := t.freeFragments_frame f.fragments
        obtain ⟨w, q, rest⟩ := ih (t.freeFragments f.fragments)
        exact ⟨w, q, by rw [rest, freed]; rfl⟩
      · exact ih t
  unfold State.retire
  simp only []
  obtain ⟨v, p, e⟩ := frees (s.deliv.queue.filter fun f => distance f.count s.deliv.consumer < a)
    (s.setQueue (s.deliv.queue.map fun f => if distance f.count s.deliv.consumer < a then { f with retiring := true } else f))
  rw [e]
  exact ⟨v, p, rfl⟩

/-! ## The stop, as a state of one pair shows it (R180) -/

/-- With the pairs as they are, the stop is not in force. -/
def State.free (s : State) : Prop := s.stopOk → s.surge.stop = false

theorem State.stopOk_of_calm {s t : State} (h : t.calm = s.calm) : s.stopOk → t.stopOk :=
  State.stopOk_congr (congrArg Calm.stopView h) (congrArg Calm.surge h) (State.state_of_calm h)

theorem State.free_of_calm {s t : State} (h : t.calm = s.calm) (free : s.free) : t.free := fun ok => by
  rw [show t.surge = s.surge from congrArg Calm.surge h]
  exact free (State.stopOk_of_calm h.symm ok)

/-- Under the stop every pair is OUT or HELD, so a pair in another state shows that it is not in force. -/
theorem State.free_of_state {s : State} {p : Pair} (notOut : (s.pair p).state ≠ .out) (notHeld : (s.pair p).state ≠ .held) :
    s.free := fun ok => s.stop_of_state ok notOut notHeld

/-- The states of all pairs after one pair's state has changed. -/
theorem State.stopOk_modPair {s : State} (p : Pair) (f : PairRec → PairRec) (h : s.stopOk)
    (inForce : s.surge.stop = true → (f (s.pair p)).state = .out ∨ (f (s.pair p)).state = .held)
    (ended : s.surge.stop = false → (f (s.pair p)).state ≠ .held) : (s.modPair p f).stopOk := by
  refine ⟨h.1, fun q => ?_⟩
  rw [State.pair_modPair]
  split
  · exact ⟨inForce, ended⟩
  · exact h.2 q

/-- A change of a pair's status timer and due flag keeps its state (R156). -/
theorem PairRec.state_statusOver (r : PairRec) (old new : PairState) (d : Time) : (r.statusOver old new d).state = r.state := by
  unfold PairRec.statusOver
  (repeat' split) <;> rfl

/-- A change of a pair's state is a change of its record, and what follows from it keeps all the rest (R165). -/
theorem State.changeState_keeps (s : State) (p : Pair) (new : PairState) (reason : Reason) :
    ∃ f, (f (s.pair p)).state = new ∧ Keeps (s.modPair p f) (s.changeState p new reason) := by
  unfold State.changeState
  simp only []
  split
  · next same => exact ⟨fun r => { r with reason := reason }, same, .refl _⟩
  · refine ⟨fun r => (({ r with state := new, reason := reason } : PairRec).statusOver (s.pair p).state new
        (s.now + s.prof.active.statusInterval)).bump .stateChange 1, ?_, Keeps.recheckWork ?_⟩
    · rw [PairRec.state_bump, PairRec.state_statusOver]
    · split
      · exact (Keeps.refl _).raise.modPair.closeOnDeparture
      · exact (Keeps.refl _).raise

/-- Whatever the stop, a change of state keeps what an accepted commit keeps. -/
theorem Told.changeState {s t : State} (h : Told s t) {p : Pair} {new : PairState} {reason : Reason} :
    Told s (t.changeState p new reason) := by
  obtain ⟨f, _, rest⟩ := t.changeState_keeps p new reason
  have moved : Told t (t.modPair p f) := ⟨⟨rfl, id, id, id, id⟩, rfl, rfl, rfl, rfl, fun _ => id⟩
  exact (h.trans moved).trans rest.told

namespace Keeps

variable {s t : State} (h : Keeps s t)
include h

/-! ## Changes of a pair's state (R165) -/

/-- A change of state keeps what it suits: OUT or HELD under the stop, not HELD without it. -/
theorem changeState {p : Pair} {new : PairState} {reason : Reason}
    (inForce : t.stopOk → t.surge.stop = true → new = .out ∨ new = .held)
    (ended : t.stopOk → t.surge.stop = false → new ≠ .held) : Keeps s (t.changeState p new reason) := by
  obtain ⟨f, state, rest⟩ := t.changeState_keeps p new reason
  have moved : Keeps t (t.modPair p f) :=
    ⟨⟨⟨rfl, id, id, id, id⟩, rfl, rfl, rfl, rfl, fun _ => id⟩, rfl, rfl, rfl, fun ok =>
      State.stopOk_modPair p f ok (by rw [state]; exact inForce ok) (by rw [state]; exact ended ok)⟩
  exact (h.trans moved).trans rest

/-- While the stop is not in force a pair moves to any state but HELD. -/
theorem changeState_free {p : Pair} {new : PairState} {reason : Reason} (free : t.free)
    (notHeld : new ≠ .held := by decide) : Keeps s (t.changeState p new reason) :=
  h.changeState (fun ok e => absurd e (by simp [free ok])) fun _ _ => notHeld

theorem enterDown {p : Pair} {cause : Reason} {failed : Bool} (free : t.free) : Keeps s (t.enterDown p cause failed) := by
  unfold State.enterDown
  simp only []
  split
  · exact (h.changeState_free free).modPair.forgetLearned
  · exact (h.changeState_free free).modPair

theorem enterProving {p : Pair} (free : t.free) : Keeps s (t.enterProving p) := (h.changeState_free free).modPair

theorem enterActive {p : Pair} (free : t.free) : Keeps s (t.enterActive p) := (h.changeState_free free).modPair

theorem failProving {p : Pair} {cause : Reason} (free : t.free) : Keeps s (t.failProving p cause) :=
  h.modPair.enterDown (State.free_of_calm (State.calm_modPair t p (fun r => r.withOutcome .fail) fun _ => rfl) free)

theorem lose {p : Pair} (free : t.free) : Keeps s (t.lose p) := by
  have stillFree := State.free_of_calm (State.calm_bumpPair t p .pairLoss 1) free
  unfold State.lose
  simp only []
  split
  · exact (h.bumpPair.changeState_free stillFree).modPair.raise
  · exact (h.bumpPair.changeState_free stillFree).modPair

theorem disable {p : Pair} : Keeps s (t.disable p) := by
  unfold State.disable
  split
  · exact h.modPair
  · exact (h.changeState (fun _ _ => .inl rfl) (fun _ _ => by decide)).modPair.landingOut

/-- A pair starts HELD under the stop and DOWN without it, by the Pair Supervisor's view of it (R167). -/
theorem startPair {p : Pair} : Keeps s (t.startPair p) := by
  have started : Keeps s (((t.modPair p fun r => { r with drained := false }).landingStart p).transmitStart p) :=
    h.modPair.landingStart.transmitStart
  unfold State.startPair State.hold
  simp only []
  generalize ((t.modPair p fun r => { r with drained := false }).landingStart p).transmitStart p = u at started ⊢
  split
  · next view =>
    exact (started.changeState (fun _ _ => .inr rfl) fun ok e => absurd (ok.1.symm.trans view) (by simp [e])).modPair
  · next view => exact started.enterDown fun ok => by rw [← ok.1]; simpa using view

theorem enable {p : Pair} : Keeps s (t.enable p) := by
  unfold State.enable
  (repeat' split)
  · exact h.modPair
  · exact h.startPair
  · exact h

/-! ## Arrivals and notices (R169, R172, R174, R175, R181, R183) -/

theorem arrive {p : Pair} : Keeps s (t.arrive p) := by
  unfold State.arrive
  (repeat' split)
  · exact h.modPair
  · exact h.modPair
  · exact h.modPair
  · next down _ _ => exact h.enterProving (State.free_of_state (p := p) (by simp [down]) (by simp [down]))
  · exact h
  · exact h

theorem takeProve {p : Pair} {b : Bool} : Keeps s (t.takeProve p b) := by
  unfold State.takeProve
  simp only []
  split
  · exact h.arrive.modPair
  · exact h.arrive

/-- A STATUS payload leaves the Pair Supervisor's view of the stop (R183). -/
theorem takePayload {p : Pair} {x : StatusPayload} : Keeps s (t.takePayload p x) := by
  have counted : Keeps s (if 1 ≤ x.state.toNat ∧ x.state.toNat ≤ 3 then t.modPair p fun r => { r with peerState := x.state }
      else (t.modPair p fun r => { r with peerState := x.state }).bumpPair p .badPeerState) := by
    split
    · exact h.modPair
    · exact h.modPair.bumpPair
  unfold State.takePayload
  simp only []
  generalize (if 1 ≤ x.state.toNat ∧ x.state.toNat ≤ 3 then t.modPair p fun r => { r with peerState := x.state }
      else (t.modPair p fun r => { r with peerState := x.state }).bumpPair p .badPeerState) = u at counted ⊢
  refine recheckWork (setGeneration ?_)
  exact counted.congr rfl

theorem takeStatus {p : Pair} {x : Option StatusPayload} : Keeps s (t.takeStatus p x) := by
  unfold State.takeStatus
  split
  · exact h.arrive.takePayload
  · exact h.bumpPair.arrive

theorem headerErrorNotice {p : Pair} : Keeps s (t.headerErrorNotice p) := by
  unfold State.headerErrorNotice
  simp only []
  have counted : Keeps s (t.modPair p fun r => { r with recentErrors := min 255 (r.recentErrors + 1) }) := h.modPair
  generalize (t.modPair p fun r => { r with recentErrors := min 255 (r.recentErrors + 1) }) = u at counted ⊢
  have burst := State.calm_bumpPair u p .errorBurst 1
  (repeat' split)
  · next proving =>
    exact counted.bumpPair.failProving
      (State.free_of_calm burst (State.free_of_state (p := p) (by simp [proving]) (by simp [proving])))
  · next active =>
    exact counted.bumpPair.lose
      (State.free_of_calm burst (State.free_of_state (p := p) (by simp [active]) (by simp [active])))
  · exact counted
  · exact counted

theorem conflictNotice {p : Pair} : Keeps s (t.conflictNotice p) := by
  unfold State.conflictNotice
  split
  · exact h.modPair.raise
  · exact h

/-! ## Recomputes and lanes (R40, R139, R170, R182) -/

theorem checkCells {p : Pair} : Keeps s (t.checkCells p) := by
  unfold State.checkCells
  simp only []
  (repeat' split)
  · next proving => exact h.enterDown (State.free_of_state (p := p) (by simp [proving]) (by simp [proving]))
  · next active => exact h.enterDown (State.free_of_state (p := p) (by simp [active]) (by simp [active]))
  · exact h.modPair
  · exact h
  · exact h.modPair
  · exact h

theorem takeTarget {g : AllocTarget} : Keeps s (t.takeTarget g) :=
  recheckWork (h.installTarget.forPairs _ fun u _ => (refl u).checkCells)

theorem recompute : Keeps s t.recompute := by
  unfold State.recompute
  simp only []
  split
  · exact h.modDist.takeTarget
  · exact h.modDist.recheckWork

theorem dropStalePin {p : Pair} : Keeps s (t.dropStalePin p) := by
  unfold State.dropStalePin
  (repeat' split)
  · exact h.modPair
  · exact h
  · exact h

theorem enterPin {p : Pair} : Keeps s (t.enterPin p) := by
  unfold State.enterPin
  (repeat' split)
  · next lane _ _ =>
    refine modPair (h.forPairs _ fun u q => (refl u).modPair fun r => ?_)
    unfold PairRec.dropLearned
    (repeat' split) <;> rfl
  · exact h
  · exact h

theorem applyPins : Keeps s t.applyPins :=
  forPairs (h.forPairs _ fun u _ => (refl u).dropStalePin) _ fun u _ => (refl u).enterPin

theorem checkLane {before : List (Option (Fin 8))} {p : Pair} : Keeps s (State.checkLane before t p) := by
  unfold State.checkLane
  simp only []
  (repeat' split)
  · exact h
  · next proving _ => exact h.enterDown (State.free_of_state (p := p) (by simp [proving]) (by simp [proving]))
  · exact h
  · next active _ => exact h.enterDown (State.free_of_state (p := p) (by simp [active]) (by simp [active]))
  · exact h.modPair
  · exact h
  · exact h

theorem recheckLanes {before : List (Option (Fin 8))} : Keeps s (t.recheckLanes before) := by
  unfold State.recheckLanes
  split
  · exact h
  · exact h.forPairs _ fun u _ => (refl u).checkLane

theorem statusExpire {p : Pair} : Keeps s (t.statusExpire p) := by
  refine h.modPair fun r => ?_
  simp only []
  split <;> rfl

/-! ## Arrivals of ring writes (R24, R28, R33 to R42) -/

theorem voidNotice {p : Pair} {c : Nat} {u : Half} {x : Holder} : Keeps s (t.voidNotice p c u x) := by
  cases x with
  | window => exact h.windowVoid
  | delivery => exact h.deliveryVoid

theorem voidCell {p : Pair} {c : Nat} : Keeps s (t.voidCell p c) := by
  unfold State.voidCell
  split
  · exact h.bumpPair.vacate.voidNotice.releaseAdvance
  · exact h

theorem route {p : Pair} {x : Completed} : Keeps s (t.route p x) := by
  unfold State.route
  (repeat' split)
  · exact h.arrive.admitData
  · exact h.cellFree.takeStatus
  · exact h.cellFree.takeProve

theorem dropLane {p : Pair} {x : Completed} {c : PCounter} : Keeps s (t.dropLane p x c) := h.bumpPair.cellFree

theorem laneCheck {p : Pair} {x : Completed} : Keeps s (t.laneCheck p x) := by
  unfold State.laneCheck
  (repeat' split)
  · exact h.route
  · exact h.dropLane
  · exact h.dropLane.conflictNotice
  · exact h.modPair.route
  · exact h.dropLane

theorem completeLanding {p : Pair} {hdr : Header} {m : Bool} {c : List Word} : Keeps s (t.completeLanding p hdr m c) := by
  unfold State.completeLanding
  simp only []
  exact h.modPair.bumpPair.laneCheck

theorem setCursor {p : Pair} {c : Cursor} : Keeps s (t.setCursor p c) := h.modPair

theorem headerError {p : Pair} {c : ErrorCause} : Keeps s (t.headerError p c) := h.modPair.bumpPair.headerErrorNotice

theorem landWord {p : Pair} {w : Word} : Keeps s (t.landWord p w) := by
  unfold State.landWord
  split
  · exact h
  · exact h
  · split
    · exact h.setCursor
    · exact h.headerError
  · simp only []
    split
    · exact h.completeLanding
    · exact h.setCursor

theorem landWords {p : Pair} {l : List Word} : Keeps s (t.landWords p l) := h.foldl _ (fun u _ => (refl u).landWord) l

theorem startLanding {p : Pair} {l : List Word} : Keeps s (t.startLanding p l) := by
  unfold State.startLanding
  split
  · exact h
  · exact h.modPair.landWords

theorem endInProgress {p : Pair} {cls : RingClass} {c o : Nat} : Keeps s (t.endInProgress p cls c o) := by
  unfold State.endInProgress
  simp only []
  (repeat' split)
  · exact h
  · exact h.endLanding
  · exact h
  · exact h.bumpPair.endLanding
  · exact h
  · exact h.bumpPair.endLanding
  · exact h

theorem takeOwner {p : Pair} {c o : Nat} {l : List Word} : Keeps s (t.takeOwner p c o l) := by
  unfold State.takeOwner
  simp only []
  (repeat' split)
  · exact h.startLanding
  · exact h.bumpPair
  · exact h
  · exact h.bumpPair
  · exact h.landWords
  · exact h.bumpPair
  · exact h.landWords
  · exact h.bumpPair

theorem ringArrival {p : Pair} {cls : RingClass} {c o : Nat} {l : List Word} : Keeps s (t.ringArrival p cls c o l) := by
  unfold State.ringArrival
  simp only []
  (repeat' split)
  · exact h.voidCell.bumpPair
  · exact h.voidCell
  · exact h.voidCell.endInProgress.releaseAdvance.takeOwner
  · exact h.voidCell.endInProgress.releaseAdvance

/-- The delivery consumer count moves on with the marks of the frames it passes (R109 to R111). -/
theorem takeConsumer {v : Half} : Keeps s (t.takeConsumer v) := by
  unfold State.takeConsumer
  simp only []
  split
  · exact h.bump.raise
  · next valid =>
    split
    · exact h
    · have consumed := h.deliv (State.deliveryOk_consume v (Nat.le_of_not_lt valid))
      refine leaveQueue (consumed.congr ?calm ?pin ?events ?labels ?streak ?deliv ?queue ?fetch)
      case calm => exact State.calm_retire t _
      all_goals
        obtain ⟨pairs, pointer, e⟩ := t.retire_frame (distance v t.deliv.consumer)
        rw [e]
        rfl

end Keeps
end Sys2Proof.Machine
end

section
/-! What the Memory Path keeps (chapter 1): transactions taken, grants, the lock, answers and failures. -/

-- Theorem by theorem: the check's thread stacks leave no memory for many proofs at once behind the slow tests.
set_option Elab.async false

namespace Sys2Proof.Machine

/-! ## What leaves the open upstream transactions alone -/

/-- Whether a transaction is taken depends on the open upstream transactions alone (R1). -/
theorem State.canTake_congr {s t : State} (up : t.path.up = s.path.up) {l : Label} (h : s.canTake l = true) :
    t.canTake l = true := by
  unfold State.canTake State.upTx at h ⊢
  rw [up]
  exact h

theorem State.up_postEventWord (s : State) : s.postEventWord.path.up = s.path.up := by
  unfold State.postEventWord
  (repeat' split) <;> rfl

theorem State.up_raise (s : State) (e : Event) : (s.raise e).path.up = s.path.up := (s.setEvent e).up_postEventWord

theorem State.up_countForeign (s : State) (data : List WriteWord) (ts : List Treatment) :
    (s.countForeign data ts).path.up = s.path.up := by
  unfold State.countForeign
  simp only []
  (repeat' split) <;> rfl

theorem State.up_countPartial (s : State) (data : List WriteWord) (ts : List Treatment) :
    (s.countPartial data ts).path.up = s.path.up := by
  unfold State.countPartial
  simp only []
  (repeat' split) <;> rfl

namespace Keeps

variable {s t : State} (h : Keeps s t)
include h

/-! ## Transactions taken (R1, R4 to R10, R17) -/

theorem refuse {l : Label} {g : Tag} : Keeps s (t.refuse l g) := h.respond.bump

theorem strayAccess {l : Label} {g : Tag} : Keeps s (t.strayAccess l g) := h.respond.bump.raise

theorem refuseWindow {l : Label} {g : Tag} {c : GCounter} : Keeps s (t.refuseWindow l g c) := h.respond.bump.raise

theorem acceptRead {l : Label} {g : Tag} {a : Word} {n : Nat} {r : Redirect} (room : t.canTake l = true) :
    Keeps s (t.acceptRead l g a n r) := by
  have pinned : Keeps s ((t.modFrame r.frame fun f => { f with pins := f.pins + 1 }).bump .redirectedRead) := h.modFrame.bump
  unfold State.acceptRead
  simp only []
  split
  · exact pinned.bump.openUp (State.canTake_congr rfl room)
  · exact pinned.openUp (State.canTake_congr rfl room)

theorem takeWindowRead {l : Label} {g : Tag} {a : Word} {n o : Nat} (room : t.canTake l = true) :
    Keeps s (t.takeWindowRead l g a n o) := by
  unfold State.takeWindowRead
  split
  · exact h.refuseWindow
  · exact h.respond.bump
  · exact h.refuseWindow
  · exact h.acceptRead room

theorem forwardRead {l : Label} {g : Tag} {a : Word} {n : Nat} {cs : List WordClass} (room : t.canTake l = true) :
    Keeps s (t.forwardRead l g a n cs) := by
  unfold State.forwardRead
  simp only []
  split
  · exact (h.openUp room).bump
  · exact h.openUp room

theorem takeRead {l : Label} {g : Tag} {a : Word} {n : Nat} (room : t.canTake l = true) : Keeps s (t.takeRead l g a n) := by
  unfold State.takeRead
  split
  · exact h.refuse
  · simp only []
    split
    · exact h.takeWindowRead room
    · exact h.forwardRead room

theorem countForeign {data : List WriteWord} {ts : List Treatment} : Keeps s (t.countForeign data ts) := by
  unfold State.countForeign
  simp only []
  have counted : Keeps s (if ts.any Treatment.countsForeign = true then t.bump .foreignWrite else t) := by
    split
    · exact h.bump
    · exact h
  generalize (if ts.any Treatment.countsForeign = true then t.bump .foreignWrite else t) = u at counted ⊢
  (repeat' split)
  · exact counted.bumpPair.bumpPair
  · exact counted.bumpPair
  · exact counted.bumpPair
  · exact counted

theorem countPartial {data : List WriteWord} {ts : List Treatment} : Keeps s (t.countPartial data ts) := by
  unfold State.countPartial
  simp only []
  (repeat' split)
  · exact h.bump.bumpPair
  · exact h.bumpPair
  · exact h.bump
  · exact h

theorem guardRefuse {l : Label} {g : Tag} {data : List WriteWord} {ts : List Treatment} :
    Keeps s (t.guardRefuse l g data ts) := h.respond.countForeign.raise

theorem forwardWrite {l : Label} {g : Tag} {a : Word} {data : List WriteWord} {ts : List Treatment} (room : t.canTake l = true) :
    Keeps s (t.forwardWrite l g a data ts) := by
  have counted : Keeps s ((t.countForeign data ts).countPartial data ts) := h.countForeign.countPartial
  have up : ((t.countForeign data ts).countPartial data ts).path.up = t.path.up := by
    rw [State.up_countPartial, State.up_countForeign]
  unfold State.forwardWrite
  simp only []
  split
  · exact counted.raise.openUp (State.canTake_congr ((State.up_raise _ _).trans up) room)
  · exact counted.openUp (State.canTake_congr up room)

theorem takeWrite {l : Label} {g : Tag} {a : Word} {data : List WriteWord} (room : t.canTake l = true) :
    Keeps s (t.takeWrite l g a data) := by
  unfold State.takeWrite
  simp only []
  (repeat' split)
  · exact h.refuse
  · exact h.strayAccess
  · exact h.guardRefuse
  · exact h.forwardWrite room

theorem takeLocked {x : UpTx} (room : t.canTake x.label = true) : Keeps s (t.takeLocked x) := by
  unfold State.takeLocked
  simp only []
  (repeat' split)
  · exact h.refuse
  · exact h.strayAccess
  · exact h.refuse
  · exact h.openUp room

theorem takeLockedRead {l : Label} {g : Tag} {a : Word} {n : Nat} (room : t.canTake l = true) :
    Keeps s (t.takeLockedRead l g a n) := by
  unfold State.takeLockedRead
  split
  · exact h.refuse
  · exact h.takeLocked room

theorem takeLockedWrite {l : Label} {g : Tag} {a : Word} {data : List WriteWord} (room : t.canTake l = true) :
    Keeps s (t.takeLockedWrite l g a data) := h.takeLocked room

/-! ## The grant (R2, R13 to R18) -/

/-- A change of the Memory Path beside the open upstream transactions that keeps the streak's bound (R13). -/
theorem streak {x : Path} (up : x.up = t.path.up) (bound : x.streak ≤ 8) : Keeps s { t with path := x } := by
  refine h.trans ⟨⟨⟨rfl, id, id, ?_, id⟩, rfl, rfl, rfl, rfl, fun _ => id⟩, rfl, rfl, rfl, id⟩
  rintro ⟨length, labels, _⟩
  refine ⟨?_, ?_, bound⟩
  · simp only [up]; exact length
  · simp only [up]; exact labels

/-- Turn and streak move on; the streak stays in 0..8 (R14, R15). -/
theorem afterGrant {r : Requester} {waited : Bool} : Keeps s (t.afterGrant r waited) := by
  unfold State.afterGrant
  (repeat' split)
  · exact h.path
  · exact h.streak rfl (Nat.min_le_left _ _)
  · exact h.streak rfl (Nat.zero_le _)
  · exact h.streak rfl (Nat.zero_le _)

theorem issue {d : Label} {us : Nat} {k : TxKind} {a : Word} {n : Nat} {g : Tag} {data : List WriteWord} {i : Issuer} :
    Keeps s (t.issue d us k a n g data i) := h.setDown

theorem refuseSecond {g : Tag} : Keeps s (t.refuseSecond g) := h.foldl _ (fun u _ => (refl u).closeUp.bump) _

theorem lockOver {x : UpTx} {us : Nat} : Keeps s (t.lockOver x us) := by
  unfold State.lockOver
  (repeat' split)
  · exact h.setLock.refuseSecond
  · exact h.setLock
  · exact h
  · exact h

theorem issuePiece {x : UpTx} {r : Redirect} {d : Label} {us : Nat} : Keeps s (t.issuePiece x r d us) := by
  unfold State.issuePiece
  (repeat' split)
  · exact h
  · exact h.setStage.issue
  · exact h.setStage.issue
  · exact h

theorem issuePass {x : UpTx} {d : Label} {us : Nat} : Keeps s (t.issuePass x d us) := by
  unfold State.issuePass
  split
  · exact h.issuePiece
  · exact h.setStage.lockOver.issue

theorem noteIssue {x : Target} : Keeps s (t.noteIssue x) := by
  unfold State.noteIssue
  split
  · exact h.modRep
  · exact h

theorem issuePointer {e : PointerEntry} {rest : List PointerEntry} {a : Nat} {d : Label} {us : Nat} :
    Keeps s (t.issuePointer e rest a d us) := h.setPointer.noteIssue.issue

theorem issueCopier {w : Work} {d : Label} {us : Nat} : Keeps s (t.issueCopier w d us) := by
  unfold State.issueCopier
  split
  · exact h.modDist.issue
  · exact h.modDist.issue
  · exact h

theorem issueFetch {f : Fetch} {d : Label} {us : Nat} (offered : t.subm.fetch = some f) : Keeps s (t.issueFetch f d us) := by
  refine (h.modSubm_bound fun bound => ?_).issue
  unfold State.transmitOk at bound ⊢
  rw [offered] at bound
  exact bound

theorem issuePublication {w : PubWrite} {d : Label} {us : Nat} : Keeps s (t.issuePublication w d us) := h.modRep.issue

theorem grantTo {r : Requester} {d : Label} {us : Nat} : Keeps s (t.grantTo r d us) := by
  unfold State.grantTo
  simp only []
  (repeat' split)
  · exact h.issuePass.afterGrant
  · exact h
  · exact h
  · exact h.issuePointer.afterGrant
  · exact h.setPointer
  · exact h.issueCopier.afterGrant
  · exact h
  · next offered => exact (h.issueFetch offered).afterGrant
  · exact h
  · exact h.issuePublication.afterGrant
  · exact h

theorem grant {d : Label} {us : Nat} : Keeps s (t.grant d us) := by
  unfold State.grant
  (repeat' split)
  · exact h
  · exact h.grantTo
  · exact h

theorem breakLock {us : Nat} : Keeps s (t.breakLock us) := by
  unfold State.breakLock
  (repeat' split)
  · exact h.setLock.bump.raise
  · exact h
  · exact h

/-! ## Failures and ends (R17, R19, R20, R209) -/

theorem pathFault {x : DownTx} : Keeps s (t.pathFault x) := by
  unfold State.pathFault
  split
  · exact h.setEvent
  · exact h.raise

theorem closeOpened {x : DownTx} : Keeps s (t.closeOpened x) := by
  unfold State.closeOpened
  (repeat' split)
  · exact h.setLock
  · exact h
  · exact h

theorem forwardFailed {x : DownTx} {l : Label} : Keeps s (t.forwardFailed x l) := by
  unfold State.forwardFailed
  split
  · exact h.closeOpened.closeUp
  · exact h

theorem eventWordEnd : Keeps s t.eventWordEnd := by
  unfold State.eventWordEnd
  split
  · exact h.modRep.postEventWord
  · exact h

theorem eventWordOk : Keeps s t.eventWordOk := h.modRep.eventWordEnd

theorem failTo {x : DownTx} : Keeps s (t.failTo x) := by
  unfold State.failTo
  (repeat' split)
  · exact h.forwardFailed
  · exact h.pieceEnded
  · exact h
  · exact h.eventWordEnd
  · exact h.copierFailed
  · exact h
  · exact h.copierFailed
  · exact h
  · exact h.fetchFailed
  · exact h
  · exact h.publicationAnswered

theorem memoryError {d : Label} {x : DownTx} : Keeps s (t.memoryError d x) := h.setDown.bump.pathFault.failTo

theorem timeOut {d : Label} {x : DownTx} : Keeps s (t.timeOut d x) := h.setDown.bump.pathFault.failTo

theorem limitExpiry {d : Label} {us : Nat} : Keeps s (t.limitExpiry d us) := by
  unfold State.limitExpiry
  (repeat' split)
  · exact h.timeOut
  · exact h
  · exact h

theorem lateAnswer {d : Label} : Keeps s (t.lateAnswer d) := h.setDown.bump

theorem discardLate {d : Label} : Keeps s (t.discardLate d) := by
  unfold State.discardLate
  (repeat' split)
  · exact h
  · exact h.lateAnswer
  · exact h.lateAnswer
  · exact h

theorem quietEnd {us : Nat} : Keeps s (t.quietEnd us) := by
  unfold State.quietEnd
  split
  · exact h.path
  · exact h

/-- The end of a transaction the BX8 issued for itself or for a piece keeps it all; a forwarded one may commit a profile. -/
theorem succeed {x : DownTx} {data : List Word} (own : x.issuer.isForward = false) : Keeps s (t.succeed x data) := by
  unfold State.succeed
  split
  · next e => simp [e, Issuer.isForward] at own
  · exact h.pieceEnded
  · exact h
  · exact h.eventWordOk
  · split
    · exact h.copierReadOk
    · exact h
  · split
    · exact h.copierWriteOk
    · exact h
  · split
    · next offered => exact h.fetched (by simp [offered])
    · exact h
  · exact h.publicationAnswered

/-! ## The steps of the blocks -/

theorem takeRoom : Keeps s t.takeRoom := settle (h.deliv id)

theorem skewDue : Keeps s t.skewDue := by
  unfold State.skewDue
  (repeat' split)
  · exact h.skewExpire
  · exact h
  · exact h

theorem selectNext : Keeps s t.selectNext := by
  unfold State.selectNext
  (repeat' split)
  · exact h
  · exact h.selectFrame
  · exact h

theorem stallDue : Keeps s t.stallDue := by
  unfold State.stallDue
  (repeat' split)
  · exact h.releaseFrame
  · exact h
  · exact h

theorem reportReleased : Keeps s t.reportReleased := by
  unfold State.reportReleased
  (repeat' split)
  · exact h.closeFrame
  · exact h
  · exact h

theorem takePending : Keeps s t.takePending := by
  unfold State.takePending
  (repeat' split)
  · exact h.takeTarget
  · exact h
  · exact h

theorem dataStep : Keeps s t.dataStep := by
  unfold State.dataStep
  split
  · exact h.placeNew
  · exact h

theorem replaceStep : Keeps s t.replaceStep := by
  unfold State.replaceStep
  split
  · exact h.placeOld
  · exact h

theorem statusStep : Keeps s t.statusStep := by
  unfold State.statusStep
  split
  · exact h.placeStatus
  · exact h

theorem proveStep : Keeps s t.proveStep := by
  unfold State.proveStep
  split
  · exact h.placeProve
  · exact h

theorem takeDrained {p : Pair} : Keeps s (t.takeDrained p) := by
  unfold State.takeDrained
  simp only []
  split
  · exact h.modPair.startPair
  · exact h.modPair

/-- A step of a pair in a state whose deadline is reached: the state shows that the stop is not in force, but for OUT and HELD. -/
theorem endProving {p : Pair} (proving : (t.pair p).state = .proving) : Keeps s (t.endProving p) := by
  have free : t.free := State.free_of_state (p := p) (by simp [proving]) (by simp [proving])
  unfold State.endProving
  split
  · exact h.enterActive free
  · exact h.bumpPair.failProving (State.free_of_calm (State.calm_bumpPair t p .provingFail 1) free)

theorem silenceDue {p : Pair} : Keeps s (t.silenceDue p) := by
  have counted := State.calm_bumpPair t p .silenceExpiry 1
  unfold State.silenceDue
  (repeat' split)
  · next proving =>
    exact h.bumpPair.failProving
      (State.free_of_calm counted (State.free_of_state (p := p) (by simp [proving]) (by simp [proving])))
  · next active =>
    exact h.bumpPair.lose (State.free_of_calm counted (State.free_of_state (p := p) (by simp [active]) (by simp [active])))
  · exact h
  · exact h

theorem reportTimerDue : Keeps s t.reportTimerDue := by
  unfold State.reportTimerDue
  split
  · exact h.modRep.publicationCause
  · exact h

theorem startDue : Keeps s t.startDue := by
  unfold State.startDue
  split
  · exact h.startPublication
  · exact h

theorem releaseAtEnd : Keeps s t.releaseAtEnd := by
  unfold State.releaseAtEnd
  split
  · exact h.releaseHeld.afterPublication
  · exact h

end Keeps

end Sys2Proof.Machine
end

section
/-! What the Profile Unit, the Timebase, the Surge Monitor and the resets keep, and so what every command keeps (R199 to R208, section
9.1): the surge stop's condition holds again once the stop has been recomputed. -/

-- Theorem by theorem: the check's thread stacks leave no memory for many proofs at once behind the slow tests.
set_option Elab.async false

namespace Sys2Proof.Machine

/-! ## The surge stop's condition -/

/-- The flag is set while SURGE_N is low (R189). -/
def State.latched (s : State) : Prop := s.pins.resetN = true → s.pins.surgeN = false → s.surge.flag = true

theorem State.surgeOk_iff (s : State) :
    s.surgeOk ↔ s.surge.stop = (s.surge.flag && s.prof.active.surgeEnable) ∧ s.stopOk ∧ s.latched := by
  constructor
  · rintro ⟨stop, view, latched, states⟩
    exact ⟨stop, ⟨view, states⟩, latched⟩
  · rintro ⟨stop, ⟨view, states⟩, latched⟩
    exact ⟨stop, view, latched, states⟩

theorem Keeps.latched {s t : State} (h : Keeps s t) (l : s.latched) : t.latched := by
  unfold State.latched
  rw [h.told.resetN, h.told.surgeN, h.surge]
  exact l

theorem Keeps.surgeOk {s t : State} (h : Keeps s t) (ok : s.surgeOk) : t.surgeOk := by
  obtain ⟨stop, states, latched⟩ := (State.surgeOk_iff s).1 ok
  refine (State.surgeOk_iff t).2 ⟨?_, h.stop states, h.latched latched⟩
  rw [h.surge, h.prof]
  exact stop

/-- What a command keeps. -/
structure Sound (s t : State) : Prop where
  safe  : Safe s t
  surge : s.surgeOk → t.surgeOk

theorem Sound.refl (s : State) : Sound s s := ⟨.refl s, id⟩

theorem Sound.trans {s t u : State} (h : Sound s t) (g : Sound t u) : Sound s u := ⟨h.safe.trans g.safe, g.surge ∘ h.surge⟩

theorem Keeps.sound {s t : State} (h : Keeps s t) : Sound s t := ⟨h.safe, h.surgeOk⟩

theorem Sound.foldl {α : Type} {s t : State} (h : Sound s t) (f : State → α → State) (hf : ∀ u x, Sound u (f u x)) (l : List α) :
    Sound s (l.foldl f t) := by
  induction l generalizing t with
  | nil => exact h
  | cons x xs ih => exact ih (h.trans (hf t x))

theorem Sound.forPairs {s t : State} (h : Sound s t) (f : State → Pair → State) (hf : ∀ u p, Sound u (f u p)) :
    Sound s (t.forPairs f) := h.foldl f hf allPairs

theorem Sound.whenever {s : State} {c : Bool} {f : State → State} (h : c = true → Sound s (f s)) : Sound s (s.whenever c f) := by
  unfold State.whenever
  split
  · next e => exact h e
  · exact .refl s

theorem Sound.whenUp {s : State} {f : State → State} (h : Sound s (f s)) : Sound s (s.whenUp f) := by
  unfold State.whenUp
  split
  · exact h
  · exact .refl s

/-! ## Moves of the pairs' states -/

/-- One pair has moved to a state; the other pairs' states, the surge items, the view and the Profile Unit are as they were. -/
structure Moves (s t : State) (p : Pair) (new : PairState) : Prop where
  told  : Told s t
  prof  : t.prof = s.prof
  surge : t.surge = s.surge
  view  : t.sup.stopView = s.sup.stopView
  state : ∀ q, (t.pair q).state = if q = p then new else (s.pair q).state

/-- A pair that stays where it is. -/
theorem Moves.stay (s : State) (p : Pair) : Moves s s p (s.pair p).state := by
  refine ⟨.refl s, rfl, rfl, rfl, fun q => ?_⟩
  split
  · next e => rw [e]
  · rfl

theorem State.changeState_moves (s : State) (p : Pair) (new : PairState) (reason : Reason) :
    Moves s (s.changeState p new reason) p new := by
  obtain ⟨f, state, rest⟩ := s.changeState_keeps p new reason
  refine ⟨(Told.refl s).changeState, rest.prof, rest.surge, rest.view, fun q => ?_⟩
  by_cases same : (s.pair p).state = new
  · rw [show s.changeState p new reason = s.modPair p fun r => { r with reason := reason } by
      unfold State.changeState; simp only [same, if_true], State.pair_modPair]
    split
    · exact same
    · rfl
  · split
    · next e =>
      subst e
      exact (congrArg Watch.state (s.watch_changeState_self q new reason same)).trans
        ((s.pair q).changed_fields new reason _).1
    · next e => exact congrArg Watch.state (s.watch_changeState_other p q new reason e)

/-- A move followed by a change of a record that keeps its state. -/
theorem Moves.modPair {s t : State} {p q : Pair} {new : PairState} {f : PairRec → PairRec} (h : Moves s t p new)
    (hf : ∀ r, (f r).state = r.state := by intro r; rfl) : Moves s (t.modPair q f) p new := by
  have kept : Keeps t (t.modPair q f) := (Keeps.refl t).modPair hf
  refine ⟨h.told.trans kept.told, h.prof, h.surge, h.view, fun x => ?_⟩
  rw [State.state_of_calm (State.calm_modPair t q f hf) x]
  exact h.state x

theorem State.hold_moves (s : State) (p : Pair) : Moves s (s.hold p) p .held := (s.changeState_moves p .held .none).modPair

theorem State.enterDown_moves (s : State) (p : Pair) (cause : Reason) (failed : Bool) :
    Moves s (s.enterDown p cause failed) p .down := by
  unfold State.enterDown
  simp only []
  split
  · exact (s.changeState_moves p .down _).modPair.modPair fun r => r.state_forgetLearned
  · exact (s.changeState_moves p .down _).modPair

/-- Every pair has moved as g says; the surge items, the view and the Profile Unit are as they were. -/
structure MovesAll (s t : State) (g : PairState → PairState) : Prop where
  told  : Told s t
  prof  : t.prof = s.prof
  surge : t.surge = s.surge
  view  : t.sup.stopView = s.sup.stopView
  state : ∀ q, (t.pair q).state = g (s.pair q).state

/-- A move made for each pair moves them all. -/
theorem State.forPairs_moves (s : State) (f : State → Pair → State) (g : PairState → PairState)
    (hf : ∀ u p, Moves u (f u p) p (g (u.pair p).state)) : MovesAll s (s.forPairs f) g := by
  have some : ∀ (l : List Pair) (u : State), l.Nodup → Told u (l.foldl f u) ∧ (l.foldl f u).prof = u.prof ∧
      (l.foldl f u).surge = u.surge ∧ (l.foldl f u).sup.stopView = u.sup.stopView ∧
      ∀ q, ((l.foldl f u).pair q).state = if q ∈ l then g (u.pair q).state else (u.pair q).state := by
    intro l
    induction l with
    | nil => exact fun u _ => ⟨.refl u, rfl, rfl, rfl, fun q => by simp⟩
    | cons p ps ih =>
      intro u distinct
      obtain ⟨fresh, rest⟩ := List.nodup_cons.1 distinct
      obtain ⟨told, prof, surge, view, state⟩ := ih (f u p) rest
      have first := hf u p
      refine ⟨first.told.trans told, prof.trans first.prof, surge.trans first.surge, view.trans first.view, fun q => ?_⟩
      rw [List.foldl_cons, state q, first.state q]
      by_cases e : q = p
      · subst e; simp [fresh]
      · simp [e]
  obtain ⟨told, prof, surge, view, state⟩ := some allPairs s (by decide)
  have all : ∀ q : Pair, q ∈ allPairs := by decide
  exact ⟨told, prof, surge, view, fun q => by rw [State.forPairs, state q, if_pos (all q)]⟩

/-- Where a pair stands once the stop has come into force (R180). -/
def PairState.underStop (x : PairState) : PairState := if x = .out ∨ x = .held then x else .held

/-- Where a pair stands once the stop has ended (R180). -/
def PairState.afterStop (x : PairState) : PairState := if x = .held then .down else x

theorem State.stopEntry_moves (s : State) :
    MovesAll { s with sup := { s.sup with stopView := true } } s.stopEntry PairState.underStop := by
  refine State.forPairs_moves _ _ _ fun u p => ?_
  unfold PairState.underStop
  split
  · exact .stay u p
  · exact u.hold_moves p

theorem State.stopEnd_moves (s : State) :
    MovesAll { s with sup := { s.sup with stopView := false } } s.stopEnd PairState.afterStop := by
  refine State.forPairs_moves _ _ _ fun u p => ?_
  unfold PairState.afterStop
  split
  · exact u.enterDown_moves p .none false
  · exact .stay u p

theorem Told.stopEntry {s t : State} (h : Told s t) : Told s t.stopEntry := h.sup.trans t.stopEntry_moves.told

theorem Told.stopEnd {s t : State} (h : Told s t) : Told s t.stopEnd := h.sup.trans t.stopEnd_moves.told

theorem Told.recomputeStop {s t : State} (h : Told s t) : Told s t.recomputeStop := by
  unfold State.recomputeStop
  simp only []
  (repeat' split)
  · exact h
  · exact (h.surge.trans (Keeps.refl _).bump.told).stopEntry
  · exact h.surge.stopEnd

/-- The recomputed stop suits the flag and the enable, and the pairs suit it (section 9.1, R180, R190). -/
theorem State.surgeOk_recomputeStop {s : State} (states : s.stopOk) (latched : s.latched) : s.recomputeStop.surgeOk := by
  rw [State.surgeOk_iff]
  unfold State.recomputeStop
  simp only []
  generalize inForce : (s.surge.flag && s.prof.active.surgeEnable) = b
  cases hb : decide (b = s.surge.stop) with
  | true =>
    have same := of_decide_eq_true hb
    simp only [if_pos same]
    exact ⟨same.symm.trans inForce.symm, states, latched⟩
  | false =>
    have changed := of_decide_eq_false hb
    simp only [if_neg changed]
    cases b with
    | true =>
      have moved := (State.bump { s with surge := { s.surge with stop := true } } .stopEntry).stopEntry_moves
      simp only [if_true]
      refine ⟨?_, ⟨?_, fun p => ?_⟩, ?_⟩
      · rw [moved.surge, moved.prof]
        exact inForce.symm
      · rw [moved.view, moved.surge]
        rfl
      · rw [moved.surge, moved.state]
        unfold PairState.underStop
        split
        · next e => exact ⟨fun _ => e, nofun⟩
        · exact ⟨fun _ => .inr rfl, nofun⟩
      · unfold State.latched
        rw [moved.told.resetN, moved.told.surgeN, moved.surge]
        exact latched
    | false =>
      have moved := State.stopEnd_moves { s with surge := { s.surge with stop := false } }
      simp only [Bool.false_eq_true, if_false]
      refine ⟨?_, ⟨?_, fun p => ?_⟩, ?_⟩
      · rw [moved.surge, moved.prof]
        exact inForce.symm
      · rw [moved.view, moved.surge]
      · rw [moved.surge, moved.state]
        refine ⟨nofun, fun _ => ?_⟩
        unfold PairState.afterStop
        split
        · decide
        · next e => exact e
      · unfold State.latched
        rw [moved.told.resetN, moved.told.surgeN, moved.surge]
        exact latched

/-! ## The Surge Monitor's steps (R189, R192) -/

theorem Told.surgeLatch {s t : State} (h : Told s t) : Told s t.surgeLatch :=
  (h.surge.trans (Keeps.refl _).raise.bump.told).recomputeStop

theorem State.surgeOk_surgeLatch {s : State} (states : s.stopOk) : s.surgeLatch.surgeOk := by
  have flagged : State.stopOk { s with surge := { s.surge with flag := true } } := states
  have raised : Keeps { s with surge := { s.surge with flag := true } }
      ((State.raise { s with surge := { s.surge with flag := true } } .surge).bump .surgeEdge) := (Keeps.refl _).raise.bump
  exact State.surgeOk_recomputeStop (raised.stop flagged) (raised.latched fun _ _ => rfl)

theorem Told.acknowledge {s t : State} (h : Told s t) : Told s t.acknowledge := by
  unfold State.acknowledge
  (repeat' split)
  · exact (h.trans (Keeps.refl t).bump.told).surge.recomputeStop
  · exact h.trans (Keeps.refl t).raise.bump.told
  · exact h.trans (Keeps.refl t).bump.told

theorem State.surgeOk_acknowledge {s : State} (ok : s.surgeOk) : s.acknowledge.surgeOk := by
  obtain ⟨_, states, _⟩ := (State.surgeOk_iff s).1 ok
  unfold State.acknowledge
  (repeat' split)
  · next high =>
    refine State.surgeOk_recomputeStop states ?_
    intro _ low
    exact absurd (low.symm.trans high) (by decide)
  · exact (Keeps.refl s).raise.bump.surgeOk ok
  · exact (Keeps.refl s).bump.surgeOk ok

theorem Sound.acknowledge {s t : State} (h : Sound s t) : Sound s t.acknowledge :=
  h.trans ⟨(Told.refl t).acknowledge.safe, State.surgeOk_acknowledge⟩

/-! ## Changes of the Profile Unit -/

/-- A change of the Profile Unit beside the active profile. -/
theorem Sound.modProf {s t : State} (h : Sound s t) {f : ProfileUnit → ProfileUnit}
    (active : ∀ u, (f u).active = u.active := by intro u; rfl) : Sound s (t.modProf f) := by
  refine h.trans ⟨⟨rfl, ?_, id, id, id⟩, ?_⟩
  · intro ok
    unfold State.attnOk State.modProf
    rw [active]
    exact ok
  · intro ok
    unfold State.surgeOk State.modProf
    rw [active]
    exact ok

/-- A change of a serial acted on (R203). -/
theorem Told.acted {s t : State} (h : Told s t) {f : ProfileUnit → ProfileUnit}
    (unacted : ∀ u, (f u).unacted = u.unacted := by intro u; rfl) : Told s (t.modProf f) := by
  have active : ∀ u, (f u).active = u.active := fun u => by
    have same := congrArg ProfileUnit.active (unacted u)
    exact same
  exact h.trans ⟨(Sound.modProf (.refl t) active).safe, unacted _, rfl, rfl, rfl, fun _ => id⟩

namespace Keeps

variable {s t : State} (h : Keeps s t)
include h

/-! ## What an application tells the blocks (R201) -/

theorem arbitrationChange {old : Image} : Keeps s (t.arbitrationChange old) := by
  unfold State.arbitrationChange
  split
  · exact h
  · exact h.streak rfl (Nat.zero_le _)

theorem ringChange {old : Image} {p : Pair} : Keeps s (t.ringChange old p) := by
  unfold State.ringChange
  split
  · exact h
  · exact h.buildRing

theorem postRelease {p : Pair} : Keeps s (t.postRelease p) := by
  unfold State.postRelease
  split
  · exact h
  · exact h.postCount

theorem countBlockChange {old : Image} : Keeps s (t.countBlockChange old) := by
  unfold State.countBlockChange
  split
  · exact (h.postDeliveryCounts.forPairs _ fun u _ => (refl u).postRelease).postTransmitWords
  · exact h

theorem deliveryRingChange {old : Image} : Keeps s (t.deliveryRingChange old) := by
  unfold State.deliveryRingChange
  split
  · exact h.postDeliveryRing
  · exact h

theorem submissionRingChange {old : Image} : Keeps s (t.submissionRingChange old) := by
  unfold State.submissionRingChange
  split
  · exact h
  · exact h.ringChanged

theorem applyEnables : Keeps s t.applyEnables := by
  refine (h.forPairs _ fun u p => ?_).forPairs _ fun u p => ?_
  · split
    · exact refl u
    · exact (refl u).disable
  · split
    · exact (refl u).enable
    · exact refl u

/-- ATTN_N recomputed suits the event set and the enable set (R208). -/
theorem refreshAttn : Keeps s t.refreshAttn := by
  refine h.trans ⟨⟨⟨rfl, fun _ => ?_, id, id, id⟩, rfl, rfl, rfl, rfl, fun _ => id⟩, rfl, rfl, rfl, id⟩
  show (decide _ = true) ↔ _
  rw [decide_eq_true_iff]
  rfl

theorem eventChange {old : Image} : Keeps s (t.eventChange old) := by
  unfold State.eventChange
  simp only []
  split
  · exact h.refreshAttn.postEventWord
  · exact h.refreshAttn

theorem clearPeer : Keeps s t.clearPeer := h.congr rfl

theorem bondRestart : Keeps s t.bondRestart := h.bondClear.abortWaiting.transmitRestart.recompute.clearPeer.recheckWork.bump

end Keeps

/-- What an application tells the blocks before the stop is recomputed. -/
def State.tellStart (s : State) (old : Image) (occasion : Bool) : State :=
  let pinned := ((s.arbitrationChange old).forPairs (State.ringChange old)).applyPins
  let timed := (((pinned.countBlockChange old).deliveryRingChange old).capCredits.aim).submissionRingChange old
  if occasion then timed.recompute else timed

/-- What an application tells the blocks after the stop is recomputed. -/
def State.tellEnd (s : State) (old : Image) (lanes : List (Option (Fin 8))) : State :=
  (((s.applyEnables.recheckLanes lanes).recheckWork).reportModeChange old.reportMode).eventChange old

theorem State.tellBlocks_eq (s : State) (old : Image) (occasion : Bool) (lanes : List (Option (Fin 8))) :
    s.tellBlocks old occasion lanes = (s.tellStart old occasion).recomputeStop.tellEnd old lanes := rfl

theorem State.tellStart_keeps (s : State) (old : Image) (occasion : Bool) : Keeps s (s.tellStart old occasion) := by
  have timed : Keeps s ((((((s.arbitrationChange old).forPairs (State.ringChange old)).applyPins.countBlockChange
      old).deliveryRingChange old).capCredits.aim).submissionRingChange old) :=
    ((Keeps.refl s).arbitrationChange.forPairs _ fun u _ => (Keeps.refl u).ringChange).applyPins.countBlockChange
      |>.deliveryRingChange.capCredits.aim.submissionRingChange
  unfold State.tellStart
  simp only []
  split
  · exact timed.recompute
  · exact timed

theorem State.tellEnd_keeps (s : State) (old : Image) (lanes : List (Option (Fin 8))) : Keeps s (s.tellEnd old lanes) :=
  (Keeps.refl s).applyEnables.recheckLanes.recheckWork.reportModeChange.eventChange

theorem State.tellBlocks_told (s : State) (old : Image) (occasion : Bool) (lanes : List (Option (Fin 8))) :
    Told s (s.tellBlocks old occasion lanes) := by
  rw [State.tellBlocks_eq]
  exact (s.tellStart_keeps old occasion).told.recomputeStop.trans (State.tellEnd_keeps _ old lanes).told

theorem State.surgeOk_tellBlocks {s : State} (old : Image) (occasion : Bool) (lanes : List (Option (Fin 8))) (states : s.stopOk)
    (latched : s.latched) : (s.tellBlocks old occasion lanes).surgeOk := by
  rw [State.tellBlocks_eq]
  have start := s.tellStart_keeps old occasion
  exact (State.tellEnd_keeps _ old lanes).surgeOk (State.surgeOk_recomputeStop (start.stop states) (start.latched latched))

/-! ## Request serials (R203) -/

theorem State.passBond_told (s : State) : Told s s.passBond := by
  unfold State.passBond
  simp only []
  split
  · exact .refl s
  · exact (Told.refl s).acted.trans (Keeps.refl _).bondRestart.told

theorem State.passAck_told (s : State) : Told s s.passAck := by
  unfold State.passAck
  simp only []
  split
  · exact .refl s
  · exact (Told.refl s).acted.acknowledge

theorem State.passOneShot_told (s : State) : Told s s.passOneShot := by
  unfold State.passOneShot
  simp only []
  split
  · exact .refl s
  · exact (Told.refl s).acted.trans (Keeps.refl _).oneShot.told

theorem State.passInject_told (s : State) (p : Pair) : Told s (s.passInject p) := by
  unfold State.passInject
  simp only []
  split
  · exact .refl s
  · exact (Told.refl s).acted.trans (Keeps.refl _).modPair.told

theorem State.passRequests_told (s : State) : Told s s.passRequests :=
  ((s.passBond_told.trans (State.passAck_told _)).trans (State.passOneShot_told _)).foldl _ State.passInject_told _

theorem State.passBond_sound (s : State) : Sound s s.passBond := by
  unfold State.passBond
  simp only []
  split
  · exact .refl s
  · exact (Sound.refl s).modProf.trans (Keeps.refl _).bondRestart.sound

theorem State.passAck_sound (s : State) : Sound s s.passAck := by
  unfold State.passAck
  simp only []
  split
  · exact .refl s
  · exact (Sound.refl s).modProf.acknowledge

theorem State.passOneShot_sound (s : State) : Sound s s.passOneShot := by
  unfold State.passOneShot
  simp only []
  split
  · exact .refl s
  · exact (Sound.refl s).modProf.trans (Keeps.refl _).oneShot.sound

theorem State.passInject_sound (s : State) (p : Pair) : Sound s (s.passInject p) := by
  unfold State.passInject
  simp only []
  split
  · exact .refl s
  · exact (Sound.refl s).modProf.trans (Keeps.refl _).modPair.sound

theorem State.passRequests_sound (s : State) : Sound s s.passRequests :=
  ((s.passBond_sound.trans (State.passAck_sound _)).trans (State.passOneShot_sound _)).forPairs _ State.passInject_sound

/-! ## Commits (R199 to R202) -/

/-- After an event is raised, ATTN_N suits the event set and the enable set, whatever it did before (R208). -/
theorem State.attnOk_raise (s : State) (e : Event) : (s.raise e).attnOk := by
  refine (Keeps.refl (s.setEvent e)).postEventWord.safe.attn ?_
  show (decide _ = true) ↔ _
  rw [decide_eq_true_iff]
  rfl

/-- The pending profile as the active one, before PROFILE_APPLIED is raised (R201). -/
def State.activated (s : State) (serial : Half) : State :=
  s.modProf fun u => { u with active := u.image, lastApplied := some serial }

theorem State.adopt_keeps (s : State) (serial : Half) : Keeps (s.activated serial) (s.adopt serial) :=
  (Keeps.refl (s.activated serial)).raise.bump

theorem State.adopt_safe (s : State) (serial : Half) : Safe s (s.adopt serial) := by
  have after := (s.adopt_keeps serial).safe
  refine ⟨after.pending, fun _ => ?_, after.delivery, after.upstream, after.transmit⟩
  exact (Keeps.refl ((s.activated serial).raise .profileApplied)).bump.safe.attn (State.attnOk_raise _ _)

theorem State.accept_sound (s : State) (serial : Half) : Sound s (s.accept serial) := by
  have adopted := s.adopt_keeps serial
  refine Sound.trans (t := (s.adopt serial).tellBlocks s.prof.active s.isOccasion s.lanes) ⟨?_, fun ok => ?_⟩
    (State.passRequests_sound _)
  · exact (s.adopt_safe serial).trans (State.tellBlocks_told _ _ _ _).safe
  · obtain ⟨_, states, latched⟩ := (State.surgeOk_iff s).1 ok
    exact State.surgeOk_tellBlocks _ _ _ (adopted.stop states) (adopted.latched latched)

theorem State.reject_sound (s : State) (serial : Half) (code : RejectCode) (field : Half) :
    Sound s (s.reject serial code field) :=
  (Sound.refl s).modProf.trans (Keeps.refl _).raise.bump.sound

theorem State.rejectOverlap_sound (s : State) (serial : Half) : Sound s (s.rejectOverlap serial) :=
  (s.reject_sound serial .overlap (Config.overlapRejectField s.freeIndex)).trans ⟨⟨rfl, id, id, id, id⟩, id⟩

theorem State.applyCommit_sound (s : State) (serial : Half) : Sound s (s.applyCommit serial) := by
  unfold State.applyCommit
  split
  · exact s.accept_sound serial
  · exact s.reject_sound serial _ _
  · exact s.rejectOverlap_sound serial
  · exact s.reject_sound serial _ _
  · exact s.reject_sound serial _ _

theorem State.replaceWaiting_sound (s : State) : Sound s s.replaceWaiting := by
  unfold State.replaceWaiting
  split
  · exact (Sound.refl s).modProf.trans (Keeps.refl _).bump.sound
  · exact .refl s

theorem State.commit_sound (s : State) (w : Word) : Sound s (s.commit w) := by
  unfold State.commit
  simp only []
  (repeat' split)
  · exact s.replaceWaiting_sound.trans (State.applyCommit_sound _ _)
  · exact s.replaceWaiting_sound.modProf
  · exact s.replaceWaiting_sound.trans (State.reject_sound _ _ _ _)

theorem State.capture_sound (s : State) (words : List (Nat × Word)) : Sound s (s.capture words) := by
  unfold State.capture
  simp only []
  split
  · exact (Sound.refl s).modProf.trans (State.commit_sound _ _)
  · exact (Sound.refl s).modProf

/-! ## The Timebase (R205 to R207) -/

/-- A change of the clock keeps what every command keeps. -/
theorem State.clock_sound (s : State) (x : Clock) : Sound s { s with clock := x } := ⟨⟨rfl, id, id, id, id⟩, id⟩

theorem State.epoch_sound (s : State) : Sound s s.epoch := by
  unfold State.epoch
  simp only []
  split
  · exact (s.clock_sound _).modProf.trans (State.applyCommit_sound _ _)
  · exact s.clock_sound _

theorem State.switchClock_sound (s : State) (c : ClockSource) : Sound s (s.switchClock c) :=
  (s.clock_sound { s.clock with source := c }).trans (Keeps.refl _).raise.bump.sound

/-! ## Answers of forwarded transactions (R2, R11, R210) -/

theorem State.handOn_sound (s : State) (x : HandOn) : Sound s (s.handOn x) := by
  cases x with
  | capture words => exact s.capture_sound words
  | submissionProducer v => exact (Keeps.refl s).takeProducer.sound
  | deliveryConsumer v => exact (Keeps.refl s).takeConsumer.sound
  | transmitConsumer p v => exact (Keeps.refl s).takeTxConsumer.sound
  | ringWrite p cls c o words => exact (Keeps.refl s).ringArrival.sound

/-- Clear-on-read removes flags, and ATTN_N is recomputed (R210). -/
theorem State.clearOnRead_sound (s : State) (shown : Half) : Sound s (s.clearOnRead shown) := by
  unfold State.clearOnRead
  simp only []
  split
  · exact .refl s
  · refine Sound.trans (t := State.refreshAttn { s with rep := { s.rep with events := s.rep.events &&& ~~~_ } }) ?_
      (Keeps.refl _).postEventWord.bump.sound
    refine ⟨⟨rfl, fun _ => ?_, id, id, id⟩, id⟩
    show (decide _ = true) ↔ _
    rw [decide_eq_true_iff]
    rfl

theorem State.forwardOk_sound (s : State) (l : Label) (data : List Word) : Sound s (s.forwardOk l data) := by
  unfold State.forwardOk
  split
  · exact .refl s
  · split
    · exact (Keeps.refl s).closeUp.sound.foldl _ State.handOn_sound _
    · simp only []
      split
      · exact (Keeps.refl s).closeUp.sound.trans (State.clearOnRead_sound _ _)
      · exact (Keeps.refl s).closeUp.sound

theorem State.succeed_sound (s : State) (x : DownTx) (data : List Word) : Sound s (s.succeed x data) := by
  cases e : x.issuer.isForward with
  | false => exact ((Keeps.refl s).succeed e).sound
  | true =>
    unfold State.succeed
    split
    · exact s.forwardOk_sound _ _
    all_goals
      next issuer => simp [issuer, Issuer.isForward] at e

/-- An answer row that ends in a next state keeps what every command keeps. -/
theorem State.answer_sound {s t : State} {accepts : Issuer → Bool} {d : Label} {a : Answer}
    (h : s.answer accepts d a = .next t) : Sound s t := by
  unfold State.answer State.answerOpen at h
  (repeat' split at h) <;> cases h
  · exact .refl s
  · exact (Keeps.refl s).lateAnswer.sound
  · exact (Keeps.refl s).lateAnswer.sound
  · exact (Keeps.refl s).memoryError.sound
  · exact (Keeps.refl s).setDown.sound.trans (State.succeed_sound _ _ _)
  · exact .refl s

/-! ## Reset (R22, R189) -/

/-- Right after reset every kept condition holds. -/
theorem State.reset_ok : State.reset.surgeOk ∧ State.reset.attnOk ∧ State.reset.deliveryOk ∧ State.reset.upstreamOk ∧
    State.reset.transmitOk ∧ State.reset.pointerOk := by
  refine ⟨⟨rfl, rfl, nofun, fun p => ⟨nofun, fun _ => ?_⟩⟩, ⟨nofun, ?_⟩, ⟨by decide, rfl, by decide, nofun⟩,
    ⟨by decide, .nil, by decide⟩, Nat.zero_le 32, .nil⟩
  · revert p; decide
  · intro h
    exact absurd (BitVec.zero_and) h

theorem State.fullReset_sound (s : State) : Sound s s.fullReset := by
  obtain ⟨⟨stop, view, _, states⟩, attn, delivery, upstream, transmit, _⟩ := State.reset_ok
  exact ⟨⟨rfl, fun _ => attn, fun _ => delivery, fun _ => upstream, fun _ => transmit⟩, fun _ => ⟨stop, view, nofun, states⟩⟩

theorem State.release_sound (s : State) (us : Nat) : Sound s (s.release us) := by
  have up : Safe s { s with pins := { s.pins with resetN := true }, path := { s.path with quiet := true, quietFrom := us } } :=
    ⟨rfl, id, id, id, id⟩
  unfold State.release
  simp only []
  split
  · next high =>
    refine ⟨up, ?_⟩
    rintro ⟨stop, view, _, states⟩
    exact ⟨stop, view, fun _ low => absurd (low.symm.trans high) (by decide), states⟩
  · refine ⟨up.trans (Told.refl _).surgeLatch.safe, ?_⟩
    rintro ⟨_, view, _, states⟩
    exact State.surgeOk_surgeLatch ⟨view, states⟩

theorem State.surgeFall_sound (s : State) : Sound s s.surgeFall := by
  have fallen : Safe s { s with pins := { s.pins with surgeN := false } } := ⟨rfl, id, id, id, id⟩
  unfold State.surgeFall State.whenUp
  simp only []
  (repeat' split)
  · refine ⟨fallen.trans (Told.refl _).surgeLatch.safe, ?_⟩
    rintro ⟨_, view, _, states⟩
    exact State.surgeOk_surgeLatch ⟨view, states⟩
  · next low =>
    refine ⟨fallen, ?_⟩
    rintro ⟨stop, view, _, states⟩
    exact ⟨stop, view, fun high => absurd high low, states⟩
  · exact .refl s

theorem State.surgeRise_sound (s : State) : Sound s { s with pins := { s.pins with surgeN := true } } :=
  ⟨⟨rfl, id, id, id, id⟩, fun ⟨stop, view, _, states⟩ => ⟨stop, view, fun _ => nofun, states⟩⟩

end Sys2Proof.Machine
end

section
/-! What every command keeps, arm by arm, and the statements that rest on it: the queue, the surge stop, ATTN_N, the Delivery Queue and the
bounds of the open transactions. -/

-- Theorem by theorem: the check's thread stacks leave no memory for many proofs at once behind the slow tests.
set_option Elab.async false

namespace Sys2Proof.Machine

/-- What a command keeps, with the Pointer Writer's list (R16). -/
structure Held (s t : State) : Prop where
  sound   : Sound s t
  pointer : s.pointerOk → t.pointerOk

theorem Held.refl (s : State) : Held s s := ⟨.refl s, id⟩

/-- A row that is taken while RESET_N is high. -/
theorem Held.whenUp {s t : State} {f : State → State} (sound : Sound s (f s)) (pointer : s.pointerOk → (f s).pointerOk)
    (run : (.next (s.whenUp f) : Host.Outcome State Fault Refusal) = .next t) : Held s t := by
  cases run
  unfold State.whenUp
  split
  · exact ⟨sound, pointer⟩
  · exact .refl s

/-- A row that is taken while RESET_N is high and its condition holds. -/
theorem Held.whenUpIf {s t : State} {c : State → Bool} {f : State → State} (sound : c s = true → Sound s (f s))
    (pointer : s.pointerOk → (f s).pointerOk)
    (run : (.next (s.whenUp fun u => u.whenever (c u) f) : Host.Outcome State Fault Refusal) = .next t) :
    Held s t := by
  refine Held.whenUp (f := fun u => u.whenever (c u) f) (Sound.whenever sound) (fun ok => ?_) run
  unfold State.whenever
  split
  · exact pointer ok
  · exact ok

/-- A transaction row: the transaction is taken where it is well formed and there is room for it (R1). -/
theorem Held.taken {s t : State} {ok : Bool} {l : Label} {f : State → State} (sound : s.canTake l = true → Sound s (f s))
    (pointer : s.pointerOk → (f s).pointerOk)
    (run : (if ok = true then .next (s.whenUp fun u => u.whenever (u.canTake l) f) else .refused .malformedTransaction :
      Host.Outcome State Fault Refusal) = .next t) : Held s t := by
  split at run
  · exact Held.whenUpIf (c := fun u => u.canTake l) sound pointer run
  · cases run

/-- An answer row. -/
theorem Held.answer {s t : State} {accepts : Issuer → Bool} {d : Label} {a : Answer} (run : s.answer accepts d a = .next t) :
    Held s t := by
  refine ⟨State.answer_sound run, fun ok => ?_⟩
  unfold State.answer State.answerOpen at run
  (repeat' split at run) <;> cases run
  · exact ok
  · exact State.pointerOk_lateAnswer s d ok
  · exact State.pointerOk_lateAnswer s d ok
  · exact State.pointerOk_memoryError s d _ ok
  · exact State.pointerOk_succeed _ _ _ (State.pointerOk_setDown s d none ok)
  · exact ok

/-- The state of a deadline's row, from the row's condition (R164). -/
theorem State.state_of_stateDue {s : State} {p : Pair} {x : PairState} (h : s.stateDue p x = true) : (s.pair p).state = x := by
  unfold State.stateDue at h
  simpa using (Bool.and_eq_true_iff.1 h).1

/-- A pair in a state that is neither OUT nor HELD and whose deadline is reached shows that the stop is not in force. -/
theorem State.free_of_stateDue {s : State} {p : Pair} {x : PairState} (h : s.stateDue p x = true) (notOut : x ≠ .out)
    (notHeld : x ≠ .held) : s.free := by
  have state := State.state_of_stateDue h
  exact State.free_of_state (by rw [state]; exact notOut) (by rw [state]; exact notHeld)

/-- Every command keeps the queue and each of the kept conditions. -/
theorem exec_held (c : Instr) (s t : State) (run : exec c s = .next t) : Held s t := by
  have kept := Keeps.refl s
  cases c with
  | read l g a n => exact Held.taken (fun room => (kept.takeRead room).sound) (State.pointerOk_takeRead s l g a n) run
  | write l g a w => exact Held.taken (fun room => (kept.takeWrite room).sound) (State.pointerOk_takeWrite s l g a w) run
  | lockedRead l g a n =>
    exact Held.taken (fun room => (kept.takeLockedRead room).sound) (State.pointerOk_takeLockedRead s l g a n) run
  | lockedWrite l g a w =>
    exact Held.taken (fun room => (kept.takeLockedWrite room).sound) (State.pointerOk_takeLockedWrite s l g a w) run
  | arbiterGrant d us => exact Held.whenUp kept.grant.sound (State.pointerOk_grant s d us) run
  | lockLimitExpiry us => exact Held.whenUp kept.breakLock.sound (State.pointerOk_breakLock s us) run
  | memoryAnswer d a => exact Held.answer run
  | responseLimitExpiry d us => exact Held.whenUp kept.limitExpiry.sound (State.pointerOk_limitExpiry s d us) run
  | lateAnswer d => exact Held.whenUp kept.discardLate.sound (State.pointerOk_discardLate s d) run
  | fullReset => cases run; exact ⟨s.fullReset_sound, fun _ => s.pointerOk_fullReset⟩
  | resetRelease us =>
    cases run
    unfold State.whenever
    split
    · exact ⟨s.release_sound us, State.pointerOk_release s us⟩
    · exact .refl s
  | quietAnswerDiscard d => cases run; exact .refl s
  | downstreamQuietEnd us => exact Held.whenUp kept.quietEnd.sound (State.pointerOk_quietEnd s us) run
  | roomNotice => exact Held.whenUpIf (c := fun u => u.deliv.roomNotices != 0) (fun _ => kept.takeRoom.sound) s.pointerOk_takeRoom run
  | skewTimerExpiry => exact Held.whenUp kept.skewDue.sound s.pointerOk_skewDue run
  | pieceEnd d a => exact Held.answer run
  | fetchOffer =>
    exact Held.whenUpIf (c := fun u => u.subm.canFetch) (fun room => (kept.offerFetch room).sound) s.pointerOk_offerFetch run
  | fetchAnswer d a => exact Held.answer run
  | frameSelection => exact Held.whenUp kept.selectNext.sound s.pointerOk_selectNext run
  | ageExpiry n => exact Held.whenUp kept.expireAge.sound (State.pointerOk_expireAge s n) run
  | stallExpiry => exact Held.whenUp kept.stallDue.sound s.pointerOk_stallDue run
  | frameReleased => exact Held.whenUp kept.reportReleased.sound s.pointerOk_reportReleased run
  | submissionRingTakeIntoUse =>
    exact Held.whenUpIf (c := fun u => u.subm.ringWaiting && u.subm.idle) (fun _ => kept.takeRing.sound) s.pointerOk_takeRing run
  | recomputeTakeIntoUse => exact Held.whenUp kept.takePending.sound s.pointerOk_takePending run
  | dataPlacement => exact Held.whenUp kept.dataStep.sound s.pointerOk_dataStep run
  | replaced => exact Held.whenUp kept.replaceStep.sound s.pointerOk_replaceStep run
  | statusPlacement => exact Held.whenUp kept.statusStep.sound s.pointerOk_statusStep run
  | provePlacement => exact Held.whenUp kept.proveStep.sound s.pointerOk_proveStep run
  | copierReadAnswer d a => exact Held.answer run
  | copierWriteAnswer d a => exact Held.answer run
  | statusTimerExpiry p =>
    exact Held.whenUpIf (c := fun u => u.due (u.pair p).statusTimer) (fun _ => kept.statusExpire.sound)
      (State.pointerOk_statusExpire s p) run
  | drainedPairStart p =>
    exact Held.whenUpIf (c := fun u => (u.pair p).drained) (fun _ => kept.takeDrained.sound) (State.pointerOk_takeDrained s p) run
  | provingPeriodEnd p =>
    exact Held.whenUpIf (c := fun u => u.stateDue p .proving)
      (fun due => (kept.endProving (State.state_of_stateDue due)).sound) (State.pointerOk_endProving s p) run
  | retryHoldoffExpiry p =>
    exact Held.whenUpIf (c := fun u => u.stateDue p .down) (fun _ => kept.modPair.sound) (State.pointerOk_modPair s p _) run
  | silenceExpiry p => exact Held.whenUp kept.silenceDue.sound (State.pointerOk_silenceDue s p) run
  | lossHoldoffExpiry p =>
    exact Held.whenUpIf (c := fun u => u.stateDue p .lost)
      (fun due => (kept.enterDown (State.free_of_stateDue due (by decide) (by decide))).sound)
      (State.pointerOk_enterDown s p _ _) run
  | penaltyEnd p =>
    exact Held.whenUpIf (c := fun u => u.stateDue p .quarantine)
      (fun due => (kept.enterDown (State.free_of_stateDue due (by decide) (by decide))).sound)
      (State.pointerOk_enterDown s p _ _) run
  | quarantineFactorReset p =>
    exact Held.whenUpIf (c := fun u => u.longActive p) (fun _ => kept.modPair.sound) (State.pointerOk_modPair s p _) run
  | surgeFallingEdge => cases run; exact ⟨s.surgeFall_sound, State.pointerOk_surgeFall s⟩
  | surgeRisingEdge => cases run; exact ⟨s.surgeRise_sound, id⟩
  | epochBoundary =>
    exact Held.whenUpIf (c := fun u => reached u.now u.clock.nextEpoch) (fun _ => s.epoch_sound) s.pointerOk_epoch run
  | referenceAcquired =>
    exact Held.whenUpIf (c := fun u => u.clock.source == .internal) (fun _ => s.switchClock_sound .reference)
      (State.pointerOk_switchClock s .reference) run
  | referenceLost =>
    exact Held.whenUpIf (c := fun u => u.clock.source == .reference) (fun _ => s.switchClock_sound .internal)
      (State.pointerOk_switchClock s .internal) run
  | pointerWriteAnswer d a => exact Held.answer run
  | eventWordWriteAnswer d a => exact Held.answer run
  | reportTimerExpiry => exact Held.whenUp kept.reportTimerDue.sound s.pointerOk_reportTimerDue run
  | publicationStart => exact Held.whenUp kept.startDue.sound s.pointerOk_startDue run
  | publicationWriteAnswer d a => exact Held.answer run
  | heldReadRelease => exact Held.whenUp kept.releaseAtEnd.sound s.pointerOk_releaseAtEnd run
  | millisecondTick => exact Held.whenUp (s.clock_sound _) s.pointerOk_tick run

/-- A step keeps each condition that does not look at the queue and that every command keeps. -/
theorem step_keeps {P : State → Prop} (front : ∀ (s : State) (l : List Instr), P { s with pending := l } ↔ P s)
    (held : ∀ s t, Held s t → P s → P t) {s t : State} (ok : P s) (run : step s = .next t) : P t := by
  unfold step at run
  split at run
  · cases run
    exact ok
  · exact held _ t (exec_held _ _ t run) ((front s _).2 ok)

end Sys2Proof.Machine

namespace Sys2Proof.Proofs
open Sys2Proof.Machine

/-- Settles O2: every command keeps the queue. -/
theorem queueIsOnlyTakenFrom : Obligations.QueueIsOnlyTakenFrom := by
  refine ⟨fun s empty => ?_, fun c s t run => (exec_held c s t run).sound.safe.pending⟩
  unfold step
  rw [empty]

/-- Settles O56: every operation either keeps the pairs' states suiting the stop, or the stop is recomputed after it. -/
theorem surgeStopKept : Obligations.SurgeStopKept := fun _ _ ok run =>
  step_keeps (P := State.surgeOk) (fun _ _ => Iff.rfl) (fun _ _ h => h.sound.surge) ok run

/-- Settles O57: ATTN_N is recomputed where the event set or the enable set changes. -/
theorem attentionKept : Obligations.AttentionKept := fun _ _ ok run =>
  step_keeps (P := State.attnOk) (fun _ _ => Iff.rfl) (fun _ _ h => h.sound.safe.attn) ok run

/-- Settles O58: a frame that joins, marks of frames given back, and the leave from the old end move the queue and its counts together. -/
theorem deliveryQueueKept : Obligations.DeliveryQueueKept := fun _ _ ok run =>
  step_keeps (P := State.deliveryOk) (fun _ _ => Iff.rfl) (fun _ _ h => h.sound.safe.delivery) ok run

/-- Settles O59: transactions open where there is room, a fetch is offered where the queue has room, and postings keep targets distinct. -/
theorem openTransactionsBounded : Obligations.OpenTransactionsBounded :=
  ⟨fun _ _ ok run => step_keeps (P := State.upstreamOk) (fun _ _ => Iff.rfl) (fun _ _ h => h.sound.safe.upstream) ok run,
    fun _ _ ok run => step_keeps (P := State.transmitOk) (fun _ _ => Iff.rfl) (fun _ _ h => h.sound.safe.transmit) ok run,
    fun _ _ ok run => step_keeps (P := State.pointerOk) (fun _ _ => Iff.rfl) (fun _ _ h => h.pointer) ok run⟩

/-- Settles O60, from the values of the reset. -/
theorem keptConditionsHoldAtReset : Obligations.KeptConditionsHoldAtReset := State.reset_ok

end Sys2Proof.Proofs
end

section
/-! The rows of the link and of the resets: what is taken, refused and answered at once (R1 to R10, R17, R18, R22). -/

-- Theorem by theorem: the check's thread stacks leave no memory for many proofs at once behind the slow tests.
set_option Elab.async false

namespace Sys2Proof.Machine

/-! ## Rows that change nothing -/

/-- A row whose step changes nothing. -/
theorem State.whenUp_same (s : State) (f : State → State) (same : f s = s) : s.whenUp f = s := by
  unfold State.whenUp
  split
  · exact same
  · rfl

/-- No answer is acted on while RESET_N is low or in the quiet period (R22). -/
theorem State.answer_unlinked (s : State) (accepts : Issuer → Bool) (d : Label) (a : Answer)
    (unlinked : s.pins.resetN = false ∨ s.path.quiet = true) : s.answer accepts d a = .next s := by
  unfold State.answer
  rw [if_pos]
  cases unlinked with
  | inl low => simp [low]
  | inr quiet => simp [quiet]

theorem State.grant_quiet (s : State) (d : Label) (us : Nat) (quiet : s.path.quiet = true) : s.grant d us = s := by
  simp [State.grant, quiet]

theorem State.discardLate_quiet (s : State) (d : Label) (quiet : s.path.quiet = true) : s.discardLate d = s := by
  simp [State.discardLate, quiet]

/-! ## Transaction rows (R1) -/

theorem transactionOk_false (addr : Word) (n : Nat) (bad : addr.toNat % 4 ≠ 0 ∨ n = 0 ∨ 16 < n) : transactionOk addr n = false := by
  unfold transactionOk
  simp only [Bool.and_eq_false_iff, beq_eq_false_iff_ne, decide_eq_false_iff_not]
  omega

/-- No transaction is taken while 8 are open or its label is in use (R1). -/
theorem State.canTake_false (s : State) (l : Label) (full : 8 ≤ s.path.up.length ∨ ∃ t ∈ s.path.up, t.label = l) :
    s.canTake l = false := by
  unfold State.canTake
  cases full with
  | inl full => simp [Nat.not_lt.2 full]
  | inr used =>
    obtain ⟨t, open_, label⟩ := used
    have found : (s.upTx l).isSome = true := List.find?_isSome.2 ⟨t, open_, by simp [label]⟩
    simp [found]

/-- A transaction row whose transaction is not taken leaves it on the link. -/
theorem State.untaken (s : State) (l : Label) (f : State → State) (no : s.canTake l = false) :
    (s.whenUp fun t => t.whenever (t.canTake l) f) = s := s.whenUp_same _ (by rw [no]; rfl)

/-! ## READs (R8, R9) -/

/-- A READ within one block is judged by the classes of its words. -/
theorem State.takeRead_within (s : State) (l : Label) (g : Tag) (a : Word) (n : Nat) (within : ¬ spansBlocks a n) :
    s.takeRead l g a n = match windowOffset (s.classes a n) with
      | some o => s.takeWindowRead l g a n o
      | none => s.forwardRead l g a n (s.classes a n) := by
  unfold State.takeRead
  rw [crossesBlock_false a n within]
  rfl

theorem windowOffset_none (cs : List WordClass) (outside : ∀ c ∈ cs, c.isWindow = false) : windowOffset cs = none := by
  unfold windowOffset
  split
  · exact absurd (outside _ List.mem_cons_self) (by simp [WordClass.isWindow])
  · rfl

theorem State.takeRead_window (s : State) (l : Label) (g : Tag) (a : Word) (n o : Nat) (rest : List WordClass)
    (within : ¬ spansBlocks a n) (classes : s.classes a n = .window o :: rest) :
    s.takeRead l g a n = s.takeWindowRead l g a n o := by
  rw [s.takeRead_within l g a n within, classes]
  rfl

/-- A READ in the Delivery Window, taken from the link (R9). -/
theorem exec_read_window (s : State) (l : Label) (g : Tag) (a : Word) (n o : Nat) (rest : List WordClass) (taken : s.takes l)
    (ok : transactionOk a n = true) (within : ¬ spansBlocks a n) (classes : s.classes a n = .window o :: rest) :
    exec (.read l g a n) s = .next (s.takeWindowRead l g a n o) := by
  rw [exec_read_taken s l g a n taken ok, s.takeRead_window l g a n o rest within classes]

/-- The tests of a Delivery Window read, in order (R100 to R104). -/
theorem State.windowRead_noFrame (s : State) (o n : Nat) (empty : s.slotFrame (o / 4096) = none) : s.windowRead o n = .noFrame := by
  unfold State.windowRead
  rw [empty]

theorem State.windowRead_retiring (s : State) (o n : Nat) (f : FrameRec) (slot : s.slotFrame (o / 4096) = some f)
    (retiring : f.retiring = true) : s.windowRead o n = .noFrame := by
  unfold State.windowRead
  rw [slot]
  exact if_pos retiring

theorem State.windowRead_beyond (s : State) (o n : Nat) (f : FrameRec) (slot : s.slotFrame (o / 4096) = some f)
    (live : f.retiring = false) (beyond : f.length ≤ o % 4096) : s.windowRead o n = .zero := by
  unfold State.windowRead
  simp only [slot, live, Bool.false_eq_true, if_false, if_pos beyond]

theorem State.windowRead_void (s : State) (o n : Nat) (f : FrameRec) (slot : s.slotFrame (o / 4096) = some f)
    (live : f.retiring = false) (inside : o % 4096 < f.length)
    (void : ∃ x ∈ f.touched (o % 4096) (o % 4096 + 4 * n), x.2.isVoid = true) : s.windowRead o n = .void := by
  have any : ((f.touched (o % 4096) (o % 4096 + 4 * n)).any fun x => x.2.isVoid) = true := List.any_eq_true.2 void
  unfold State.windowRead
  simp only [slot, live, Bool.false_eq_true, if_false, if_neg (Nat.not_le.2 inside), any, if_true]

theorem State.windowRead_accept (s : State) (o n : Nat) (f : FrameRec) (slot : s.slotFrame (o / 4096) = some f)
    (live : f.retiring = false) (inside : o % 4096 < f.length)
    (whole : ∀ x ∈ f.touched (o % 4096) (o % 4096 + 4 * n), x.2.isVoid = false) :
    s.windowRead o n = .accept
      { frame := f.count, start := o % 4096, length := f.length,
        pieces := startPieces ((f.touched (o % 4096) (o % 4096 + 4 * n)).map (s.pieceOf (o % 4096) (o % 4096 + 4 * n))),
        faulted := false } := by
  have none_ : ((f.touched (o % 4096) (o % 4096 + 4 * n)).any fun x => x.2.isVoid) = false := by
    rw [List.any_eq_false]
    intro x hx
    simp [whole x hx]
  unfold State.windowRead
  simp only [slot, live, Bool.false_eq_true, if_false, if_neg (Nat.not_le.2 inside), none_]

/-! ## WRITEs (R4 to R10) -/

/-- A WRITE within one block and outside the Delivery Window is refused under guard mode or forwarded (R6, R7, R10). -/
theorem State.takeWrite_outside (s : State) (l : Label) (g : Tag) (a : Word) (data : List WriteWord)
    (within : ¬ spansBlocks a data.length) (outside : ∀ c ∈ s.classes a data.length, c.isWindow = false) :
    s.takeWrite l g a data =
      if s.prof.active.guardOn && (s.treatments g a data).any Treatment.guarded then
        s.guardRefuse l g data (s.treatments g a data)
      else s.forwardWrite l g a data (s.treatments g a data) := by
  have notStray : (s.treatments g a data).any (· == .stray) = false := by
    rw [anyStray_eq, List.any_eq_false]
    intro c hc
    simp [outside c hc]
  unfold State.takeWrite
  simp only [crossesBlock_false a _ within, notStray, Bool.false_eq_true, if_false]

/-- A foreign transmit cell word is a guarded word (R7, R10). -/
theorem cellPart_none (ts : List Treatment) (unguarded : ∀ t ∈ ts, t.guarded = false) : cellPart ts = none := by
  unfold cellPart
  rw [List.findSome?_eq_none_iff]
  intro t ht
  split
  · exact absurd (unguarded _ ht) (by simp [Treatment.guarded])
  · rfl

/-- A foreign receive ring write has a guarded word (R6, R10). -/
theorem guarded_of_ringPart_foreign (data : List WriteWord) (ts : List Treatment) (p : Pair) (o : Nat)
    (h : ringPart data ts = some (p, .foreign, o)) : ∃ t ∈ ts, t.guarded = true := by
  unfold ringPart at h
  split at h
  · simp only [Option.some.injEq, Prod.mk.injEq] at h
    obtain ⟨_, cls, _⟩ := h
    split at cls <;> cases cls
  · exact ⟨_, List.mem_cons_self, rfl⟩
  · cases h

/-- Words none of which raises FOREIGN_ACCESS are neither foreign nor written in part, so nothing is counted (R21). -/
theorem State.count_of_not_raisesForeign (s : State) (data : List WriteWord) (ts : List Treatment)
    (quiet : raisesForeign data ts = false) : (s.countForeign data ts).countPartial data ts = s := by
  unfold raisesForeign at quiet
  obtain ⟨words, part⟩ := Bool.or_eq_false_iff.1 quiet
  have each : ∀ t ∈ ts, t.guarded = false ∧ t.countsForeign = false ∧ (t == .partialSnoop) = false := by
    intro t ht
    have := List.any_eq_false.1 words t ht
    simpa [not_or, and_assoc] using this
  have noForeign : ts.any Treatment.countsForeign = false :=
    List.any_eq_false.2 fun t ht => by simp [(each t ht).2.1]
  have noPartial : ts.any (· == .partialSnoop) = false := List.any_eq_false.2 fun t ht => by simp [(each t ht).2.2]
  have noCell : cellPart ts = none := cellPart_none ts fun t ht => (each t ht).1
  have noRing : ∀ p o, ringPart data ts ≠ some (p, .foreign, o) := fun p o e => by
    obtain ⟨t, ht, guarded⟩ := guarded_of_ringPart_foreign data ts p o e
    rw [(each t ht).1] at guarded
    cases guarded
  unfold State.countForeign State.countPartial
  simp only [noForeign, noPartial, noCell, Bool.false_eq_true, if_false]
  cases e : ringPart data ts with
  | none => rfl
  | some x =>
    obtain ⟨p, cls, o⟩ := x
    cases cls with
    | owner => rfl
    | ownerPartial => rw [e] at part; cases part
    | foreign => exact absurd e (noRing p o)

/-- A forwarded WRITE is opened once its words are counted and FOREIGN_ACCESS is raised where one calls for it. -/
theorem State.forwardWrite_eq (s : State) (l : Label) (g : Tag) (a : Word) (data : List WriteWord) (ts : List Treatment) :
    let tx : UpTx := { waitingTx l g .write a data.length data with watched := ts.any Treatment.watched, handOn := handOns data ts }
    (raisesForeign data ts = false → s.forwardWrite l g a data ts = s.setUp (s.path.up ++ [tx])) ∧
      (raisesForeign data ts = true → s.forwardWrite l g a data ts =
        (((s.countForeign data ts).countPartial data ts).raise .foreignAccess).setUp (s.path.up ++ [tx])) := by
  intro tx
  have up : (((s.countForeign data ts).countPartial data ts).raise .foreignAccess).path.up = s.path.up := by
    rw [State.up_raise, State.up_countPartial, State.up_countForeign]
  constructor
  · intro quiet
    unfold State.forwardWrite
    simp only [quiet, Bool.false_eq_true, if_false, s.count_of_not_raisesForeign data ts quiet]
    rfl
  · intro foreign
    unfold State.forwardWrite
    simp only [foreign, if_true, State.openUp, up]
    rfl

/-! ## Locked kinds (R9, R17, R18) -/

/-- A locked kind within one block, judged by the classes of its words. -/
theorem State.takeLocked_within (s : State) (x : UpTx) (within : ¬ spansBlocks x.addr x.count) :
    s.takeLocked x =
      if (s.classes x.addr x.count).any WordClass.isWindow then s.strayAccess x.label x.tag
      else if (s.classes x.addr x.count).any (· != .outside) then s.refuse x.label x.tag
      else s.openUp x := by
  unfold State.takeLocked
  simp only [crossesBlock_false _ _ within, Bool.false_eq_true, if_false]

theorem State.takeLocked_outside (s : State) (x : UpTx) (within : ¬ spansBlocks x.addr x.count)
    (outside : ∀ c ∈ s.classes x.addr x.count, c = .outside) : s.takeLocked x = s.openUp x := by
  have noWindow : (s.classes x.addr x.count).any WordClass.isWindow = false :=
    List.any_eq_false.2 fun c hc => by simp [outside c hc, WordClass.isWindow]
  have noAperture : (s.classes x.addr x.count).any (· != .outside) = false :=
    List.any_eq_false.2 fun c hc => by simp [outside c hc]
  simp only [s.takeLocked_within x within, noWindow, noAperture, Bool.false_eq_true, if_false]

theorem State.takeLocked_aperture (s : State) (x : UpTx) (within : ¬ spansBlocks x.addr x.count)
    (aperture : ∃ c ∈ s.classes x.addr x.count, c ≠ .outside) (noWindow : ∀ c ∈ s.classes x.addr x.count, c.isWindow = false) :
    s.takeLocked x = s.refuse x.label x.tag := by
  have notWindow : (s.classes x.addr x.count).any WordClass.isWindow = false :=
    List.any_eq_false.2 fun c hc => by simp [noWindow c hc]
  have some_ : (s.classes x.addr x.count).any (· != .outside) = true := by
    obtain ⟨c, hc, ne⟩ := aperture
    exact List.any_eq_true.2 ⟨c, hc, by simpa using ne⟩
  simp only [s.takeLocked_within x within, notWindow, some_, Bool.false_eq_true, if_false, if_true]

theorem State.takeLocked_window (s : State) (x : UpTx) (within : ¬ spansBlocks x.addr x.count)
    (window : ∃ c ∈ s.classes x.addr x.count, c.isWindow = true) : s.takeLocked x = s.strayAccess x.label x.tag := by
  rw [s.takeLocked_within x within, if_pos (List.any_eq_true.2 window)]

/-- A LOCKED READ with a word in an aperture is judged like any locked kind: the open lock's owner is asked of one outside alone. -/
theorem State.takeLockedRead_aperture (s : State) (l : Label) (g : Tag) (a : Word) (n : Nat)
    (aperture : ∃ c ∈ s.classes a n, c ≠ .outside) : s.takeLockedRead l g a n = s.takeLocked (waitingTx l g .lockedRead a n []) := by
  have notAll : (s.classes a n).all (· == .outside) = false := by
    obtain ⟨c, hc, ne⟩ := aperture
    exact List.all_eq_false.2 ⟨c, hc, by simpa using ne⟩
  unfold State.takeLockedRead
  simp only [notAll, Bool.and_false, Bool.false_and, Bool.false_eq_true, if_false]

/-- A LOCKED READ outside every aperture is refused from the open lock's owner alone (R17). -/
theorem State.takeLockedRead_outside (s : State) (l : Label) (g : Tag) (a : Word) (n : Nat) (within : ¬ spansBlocks a n)
    (outside : ∀ c ∈ s.classes a n, c = .outside) :
    s.takeLockedRead l g a n =
      if s.ownsLock g then s.refuse l g else s.openUp (waitingTx l g .lockedRead a n []) := by
  have all : (s.classes a n).all (· == .outside) = true := List.all_eq_true.2 fun c hc => by simp [outside c hc]
  unfold State.takeLockedRead
  simp only [crossesBlock_false a n within, all, Bool.not_false, Bool.true_and]
  rw [s.takeLocked_outside _ within outside]

theorem State.ownsLock_iff (s : State) (g : Tag) : s.ownsLock g = true ↔ ∃ l, s.path.lock = some l ∧ l.owner = g := by
  unfold State.ownsLock
  split
  · next l e => simp [e]
  · next e => simp [e]

end Sys2Proof.Machine

namespace Sys2Proof.Proofs
open Sys2Proof.Machine

/-! ## The queue, reset and the quiet period -/

/-- Settles O1: the definition of a step. -/
theorem stepRunsTheFrontCommand : Obligations.StepRunsTheFrontCommand := fun _ _ _ => rfl

/-- Settles O3: the reset's values, block by block. -/
theorem resetValues : Obligations.ResetValues := by
  have pairs : ∀ p, State.reset.pair p = PairRec.reset := by decide
  refine ⟨⟨rfl, by decide, rfl, rfl, rfl, rfl⟩, fun p => ?_, ⟨rfl, rfl, rfl, rfl, rfl, rfl, rfl⟩, ⟨rfl, rfl, rfl, rfl⟩,
    ⟨rfl, rfl, rfl, rfl, rfl, rfl⟩, ⟨rfl, rfl, rfl, rfl, rfl, rfl, rfl, rfl⟩, ⟨rfl, rfl, rfl, rfl, rfl, rfl, rfl⟩,
    ⟨rfl, rfl, rfl, rfl, rfl, rfl, rfl, rfl, rfl, rfl, by decide⟩, ⟨rfl, rfl, rfl, rfl⟩,
    ⟨rfl, rfl, rfl, rfl, rfl, rfl, rfl, rfl, rfl⟩, fun c => ?_⟩
  · rw [pairs p]
    refine ⟨rfl, rfl, rfl, rfl, rfl, rfl, rfl, rfl, rfl, rfl, rfl, rfl, rfl, rfl, rfl, rfl, rfl, rfl, rfl, rfl, rfl, rfl, rfl, rfl,
      rfl, rfl, rfl, rfl, rfl, fun c => ?_⟩
    simp [PairRec.count, PairRec.reset]
  · simp [State.count, State.reset]

/-- Settles O4: the definition of FULL RESET. -/
theorem fullResetClearsEveryBlock : Obligations.FullResetClearsEveryBlock := fun _ => rfl

/-- Settles O5: a low SURGE_N at release is latched as an edge, and recomputing the stop with the enable off changes nothing. -/
theorem releaseAndQuietPeriod : Obligations.ReleaseAndQuietPeriod := by
  intro s us d up
  refine ⟨?high, ?low, ?ends, ?early, fun _ => rfl⟩
  case high =>
    intro reset high
    simp [exec, execResetRelease, reset, State.release, high, up]
  case low =>
    intro reset low stop enable
    have idle : ∀ u : State, u.surge.stop = false → u.prof.active.surgeEnable = false → u.recomputeStop = u := by
      intro u hs he
      simp [State.recomputeStop, hs, he]
    have latched : up.surgeLatch = (State.raise { up with surge := { flag := true, stop := false } } .surge).bump .surgeEdge := by
      unfold State.surgeLatch
      simp only []
      rw [show ({ up.surge with flag := true } : Surge) = { flag := true, stop := false } by rw [← stop]]
      exact idle _ (by simp) (by simpa using enable)
    rw [← latched]
    simp [exec, execResetRelease, reset, State.release, low, up]
  case ends =>
    intro reset quiet passed
    simp [exec, execDownstreamQuietEnd, reset, State.quietEnd, quiet, passed]
  case early =>
    intro reset quiet early
    simp [exec, execDownstreamQuietEnd, reset, State.quietEnd, quiet, Nat.not_le.2 early]

/-- Settles O6: every row but the reset's own and SURGE_N's is taken through `whenUp` or as an answer, and neither takes anything then. -/
theorem nothingIsTakenInResetOrQuiet : Obligations.NothingIsTakenInResetOrQuiet := by
  intro s
  constructor
  · intro low c ok notReset notRelease notFall notRise
    have unlinked : s.pins.resetN = false ∨ s.path.quiet = true := .inl low
    cases c
    case read => exact (if_pos ok).trans (congrArg _ (State.whenUp_low s _ low))
    case write => exact (if_pos ok).trans (congrArg _ (State.whenUp_low s _ low))
    case lockedRead => exact (if_pos ok).trans (congrArg _ (State.whenUp_low s _ low))
    case lockedWrite => exact (if_pos ok).trans (congrArg _ (State.whenUp_low s _ low))
    case memoryAnswer => exact s.answer_unlinked _ _ _ unlinked
    case pieceEnd => exact s.answer_unlinked _ _ _ unlinked
    case fetchAnswer => exact s.answer_unlinked _ _ _ unlinked
    case copierReadAnswer => exact s.answer_unlinked _ _ _ unlinked
    case copierWriteAnswer => exact s.answer_unlinked _ _ _ unlinked
    case pointerWriteAnswer => exact s.answer_unlinked _ _ _ unlinked
    case eventWordWriteAnswer => exact s.answer_unlinked _ _ _ unlinked
    case publicationWriteAnswer => exact s.answer_unlinked _ _ _ unlinked
    case fullReset => exact absurd rfl notReset
    case resetRelease us => exact absurd rfl (notRelease us)
    case surgeFallingEdge => exact absurd rfl notFall
    case surgeRisingEdge => exact absurd rfl notRise
    case quietAnswerDiscard => rfl
    all_goals exact congrArg _ (State.whenUp_low s _ low)
  · intro quiet d us a
    have unanswered := fun accepts => s.answer_unlinked accepts d a (.inr quiet)
    exact ⟨congrArg _ (s.whenUp_same _ (s.grant_quiet d us quiet)), unanswered _, unanswered _, unanswered _, unanswered _,
      unanswered _, unanswered _, unanswered _, unanswered _, congrArg _ (s.whenUp_same _ (s.discardLate_quiet d quiet))⟩

/-! ## The Memory Path: taking transactions -/

/-- Settles O7. -/
theorem noRoomLeavesTransactionOnLink : Obligations.NoRoomLeavesTransactionOnLink := by
  intro s l g a n data full
  have untaken := fun f => s.untaken l f (s.canTake_false l full)
  exact ⟨fun ok => ⟨(if_pos ok).trans (congrArg _ (untaken _)), (if_pos ok).trans (congrArg _ (untaken _))⟩,
    fun ok => ⟨(if_pos ok).trans (congrArg _ (untaken _)), (if_pos ok).trans (congrArg _ (untaken _))⟩⟩

/-- Settles O8. -/
theorem malformedOperandsStopByName : Obligations.MalformedOperandsStopByName := by
  constructor
  · intro s l g a n data
    have refused : ∀ m, (a.toNat % 4 ≠ 0 ∨ m = 0 ∨ 16 < m) → ¬ transactionOk a m = true := fun m bad => by
      simp [transactionOk_false a m bad]
    exact ⟨fun bad => ⟨if_neg (refused n bad), if_neg (refused n bad)⟩,
      fun bad => ⟨if_neg (refused _ bad), if_neg (refused _ bad)⟩⟩
  · intro s d t l second data kind wrong
    have unfit : t.fits data = false := by
      cases kind with
      | inl read => simp [DownTx.fits, read, wrong]
      | inr locked => simp [DownTx.fits, locked, wrong]
    have faults : s.answerOpen d t (.ok data) = .fault .malformedAnswer := by simp [State.answerOpen, unfit]
    exact ⟨fun h => (s.answer_awaited Issuer.isForward d t _ _ h rfl).trans faults,
      fun h => (s.answer_awaited Issuer.isPiece d t _ _ h rfl).trans faults,
      fun h => (s.answer_awaited Issuer.isFetch d t _ _ h rfl).trans faults,
      fun h => (s.answer_awaited Issuer.isCopierRead d t _ _ h rfl).trans faults⟩

/-- Settles O9: the block test comes first in every kind. -/
theorem burstCrossingRefused : Obligations.BurstCrossingRefused := by
  intro s l g a n data taken refused
  constructor
  · intro ok spans
    have crosses := (crossesBlock_iff a n).2 spans
    constructor
    · rw [exec_read_taken s l g a n taken ok, State.takeRead, crosses]
      rfl
    · rw [exec_lockedRead_taken s l g a n taken ok, State.takeLockedRead, crosses]
      simp [State.takeLocked, waitingTx, crosses, State.refuse, errorResponse, refused]
  · intro ok spans
    have crosses := (crossesBlock_iff a data.length).2 spans
    constructor
    · rw [exec_write_taken s l g a data taken ok, State.takeWrite, crosses]
      rfl
    · rw [exec_lockedWrite_taken s l g a data taken ok, State.takeLockedWrite, State.takeLocked]
      simp [waitingTx, crosses, State.refuse, errorResponse, refused]

/-- Settles O10. -/
theorem readsForwardedOrHeld : Obligations.ReadsForwardedOrHeld := by
  intro s l g a n taken ok within outside range tx
  have forwarded : exec (.read l g a n) s = .next (s.forwardRead l g a n (s.classes a n)) := by
    rw [exec_read_taken s l g a n taken ok, s.takeRead_within l g a n within, windowOffset_none _ outside]
  rw [forwarded]
  unfold State.forwardRead
  constructor
  · intro inRange busy
    have held : ((s.classes a n).any WordClass.inRange && s.rep.pubState != .idle) = true := by
      simpa [range, busy] using inRange
    simp only [held, if_true]
    rfl
  · intro free
    have notHeld : ((s.classes a n).any WordClass.inRange && s.rep.pubState != .idle) = false := by
      rw [Bool.and_eq_false_iff]
      exact free.imp id fun idle => by simp [idle]
    simp only [notHeld, Bool.false_eq_true, if_false]
    rfl

/-- Settles O11. -/
theorem windowReadsAnsweredAtOnce : Obligations.WindowReadsAnsweredAtOnce := by
  intro s l g a n o rest taken ok within classes error
  have read := exec_read_window s l g a n o rest taken ok within classes
  unfold State.takeWindowRead at read
  refine ⟨fun empty => ?_, fun f slot => ⟨fun retiring => ?_, fun live beyond => ?_, fun live inside void => ?_⟩⟩
  · rw [read, s.windowRead_noFrame o n empty]
    rfl
  · rw [read, s.windowRead_retiring o n f slot retiring]
    rfl
  · rw [read, s.windowRead_beyond o n f slot live beyond]
    rfl
  · rw [read, s.windowRead_void o n f slot live inside void]
    rfl

/-- Settles O12. -/
theorem windowReadAccepted : Obligations.WindowReadAccepted := by
  intro s l g a n o rest f taken ok within classes slot live inside whole pieces tx pinned
  have read := exec_read_window s l g a n o rest taken ok within classes
  unfold State.takeWindowRead at read
  rw [read, s.windowRead_accept o n f slot live inside whole]
  simp only [State.acceptRead]
  by_cases split : pieces.length = 2
  · rw [if_pos split]
    rfl
  · rw [if_neg split]
    rfl

/-- Settles O13. -/
theorem writesForwarded : Obligations.WritesForwarded := by
  intro s l g a data taken ok within outside ts unguarded tx
  have forwarded : exec (.write l g a data) s = .next (s.forwardWrite l g a data ts) := by
    have pass : (s.prof.active.guardOn && ts.any Treatment.guarded) = false := by
      rw [Bool.and_eq_false_iff]
      refine unguarded.imp id fun none_ => List.any_eq_false.2 fun t ht => ?_
      simp [none_ t ht]
    rw [exec_write_taken s l g a data taken ok, s.takeWrite_outside l g a data within outside, pass]
    rfl
  obtain ⟨quiet, foreign⟩ := s.forwardWrite_eq l g a data ts
  exact ⟨fun h => forwarded.trans (congrArg _ (quiet h)), fun h => forwarded.trans (congrArg _ (foreign h))⟩

/-- Settles O14. -/
theorem guardedWriteRefused : Obligations.GuardedWriteRefused := by
  intro s l g a data taken ok within outside guard guarded
  have refused : (s.prof.active.guardOn && (s.treatments g a data).any Treatment.guarded) = true := by
    rw [guard, List.any_eq_true.2 guarded]
    rfl
  rw [exec_write_taken s l g a data taken ok, s.takeWrite_outside l g a data within outside, refused]
  rfl

/-- Settles O15. -/
theorem windowWritesAndLockedKindsStray : Obligations.WindowWritesAndLockedKindsStray := by
  intro s l g a n data taken stray
  refine ⟨fun ok within window => ?_, fun ok within window => ⟨?_, ?_⟩⟩
  · have aperture : ∃ c ∈ s.classes a n, c ≠ .outside := by
      obtain ⟨c, hc, isWindow⟩ := window
      exact ⟨c, hc, fun e => by simp [e, WordClass.isWindow] at isWindow⟩
    rw [exec_lockedRead_taken s l g a n taken ok, s.takeLockedRead_aperture l g a n aperture,
      s.takeLocked_window (waitingTx l g .lockedRead a n []) within window]
    rfl
  · have some_ : (s.treatments g a data).any (· == .stray) = true := by
      rw [anyStray_eq]
      exact List.any_eq_true.2 window
    rw [exec_write_taken s l g a data taken ok]
    unfold State.takeWrite
    simp only [crossesBlock_false a _ within, some_, Bool.false_eq_true, if_false, if_true]
    rfl
  · rw [exec_lockedWrite_taken s l g a data taken ok, State.takeLockedWrite,
      s.takeLocked_window (waitingTx l g .lockedWrite a data.length data) within window]
    rfl

/-- Settles O16. -/
theorem lockedKindsTaken : Obligations.LockedKindsTaken := by
  intro s l g a n data taken refused
  refine ⟨fun ok within outside free => ?_, fun ok within outside owned => ?_, fun ok within aperture noWindow => ?_,
    fun ok within outside => ?_, fun ok within aperture noWindow => ?_⟩
  · have notOwner : s.ownsLock g = false := by
      rw [← Bool.not_eq_true, s.ownsLock_iff]
      rintro ⟨k, held, owner⟩
      exact free k held owner
    rw [exec_lockedRead_taken s l g a n taken ok, s.takeLockedRead_outside l g a n within outside, notOwner]
    rfl
  · rw [exec_lockedRead_taken s l g a n taken ok, s.takeLockedRead_outside l g a n within outside, (s.ownsLock_iff g).2 owned]
    rfl
  · rw [exec_lockedRead_taken s l g a n taken ok, s.takeLockedRead_aperture l g a n aperture,
      s.takeLocked_aperture (waitingTx l g .lockedRead a n []) within aperture noWindow]
    rfl
  · rw [exec_lockedWrite_taken s l g a data taken ok, State.takeLockedWrite,
      s.takeLocked_outside (waitingTx l g .lockedWrite a data.length data) within outside]
    rfl
  · rw [exec_lockedWrite_taken s l g a data taken ok, State.takeLockedWrite,
      s.takeLocked_aperture (waitingTx l g .lockedWrite a data.length data) within aperture noWindow]
    rfl

end Sys2Proof.Proofs
end

section
/-! Grants, the lock, and the ends of forwarded transactions (R2, R11, R13 to R20). -/

-- Theorem by theorem: the check's thread stacks leave no memory for many proofs at once behind the slow tests.
set_option Elab.async false

namespace Sys2Proof.Machine

/-! ## Requests and the requester chosen (R13 to R15) -/

/-- The oldest ready transaction has a request. -/
theorem oldestReady_requests (lock : Option Lock) (before l : List UpTx) (x : UpTx) (h : oldestReady lock before l = some x) :
    x.stage.requests = true := by
  induction l generalizing before with
  | nil => cases h
  | cons t ts ih =>
    unfold oldestReady at h
    split at h
    · next ready =>
      cases h
      exact (Bool.and_eq_true_iff.1 (Bool.and_eq_true_iff.1 ready).1).1
    · exact ih _ h

/-- The requester of a grant has a request (R13). -/
theorem State.hasRequest_of_mayGrant {s : State} {r : Requester} (h : s.mayGrant r = true) : s.hasRequest r = true :=
  (Bool.and_eq_true_iff.1 h).1

theorem State.internalChoice_spec {s : State} {r : Requester} (h : s.internalChoice = some r) :
    r ≠ .passThrough ∧ s.path.lock = none ∧ s.hasRequest r = true := by
  unfold State.internalChoice at h
  have found := List.find?_some h
  obtain ⟨internal, may⟩ := Bool.and_eq_true_iff.1 found
  have notPass : r ≠ .passThrough := by simpa using internal
  have unlocked := (Bool.and_eq_true_iff.1 may).2
  refine ⟨notPass, ?_, State.hasRequest_of_mayGrant may⟩
  rw [Bool.or_eq_true] at unlocked
  cases unlocked with
  | inl pass => exact absurd (by simpa using pass) notPass
  | inr none_ => exact Option.isNone_iff_eq_none.1 none_

theorem State.hasRequest_grantee {s : State} {r : Requester} (h : s.grantee = some r) : s.hasRequest r = true := by
  unfold State.grantee at h
  split at h
  · exact State.hasRequest_of_mayGrant (List.find?_some h)
  · split at h
    · next pass =>
      cases h
      exact (Bool.and_eq_true_iff.1 pass).1
    · exact (State.internalChoice_spec h).2.2

/-- The grant row under a free label goes to the requester chosen. -/
theorem exec_arbiterGrant (s : State) (d : Label) (us : Nat) (r : Requester) (linked : s.linked) (free : s.downTx d = none)
    (chosen : s.grantee = some r) : exec (.arbiterGrant d us) s = .next (s.grantTo r d us) := by
  obtain ⟨up, awake⟩ := linked
  have granted : s.grant d us = s.grantTo r d us := by simp [State.grant, awake, free, chosen]
  calc exec (.arbiterGrant d us) s
      = .next (s.grant d us) := congrArg _ (if_pos up)
    _ = _ := congrArg _ granted

/-! ## What an issue leaves (R2, R19) -/

/-- One transaction has been issued under a label; the turn and the streak have not moved yet. -/
structure Issues (s u : State) (d : Label) (us : Nat) (tx : DownTx) : Prop where
  down   : u.path.down = s.path.down.set d.val (some tx)
  issued : tx.issuedAt = us
  limit  : tx.limit = s.prof.active.responseLimit
  live   : tx.timedOut = false
  turn   : u.path.turn = s.path.turn
  streak : u.path.streak = s.path.streak
  pairs  : u.pairs = s.pairs
  reseq  : u.reseq = s.reseq
  deliv  : u.deliv = s.deliv
  sup    : u.sup = s.sup
  surge  : u.surge = s.surge
  prof   : u.prof = s.prof
  clock  : u.clock = s.clock
  pins   : u.pins = s.pins

/-- What the transaction of each requester is, and what its issue marks as issued (R16, R105, R122, R150, R209, R213). -/
structure Carries (s u : State) (r : Requester) (tx : DownTx) : Prop where
  tag : r ≠ .passThrough → tx.tag = 0 := by exact fun other => absurd rfl other
  pointer : ∀ e rest a, r = .pointerWriter → s.path.pointer = e :: rest → s.targetAddr e.target = some a →
    tx.kind = .write ∧ tx.addr = wordOf a ∧ tx.count = e.value.length ∧ tx.data = wholeWords e.value ∧
      tx.issuer = (if e.target = .eventWord then .eventWord else .pointer) ∧ u.path.pointer = rest ∧
      u.rep.afterIssue = (if e.target = .eventWord then 0 else s.rep.afterIssue) := by intro _ _ _ other; cases other
  copier : ∀ w, r = .copier → s.dist.copier = some w →
    (w.phase = .toRead →
      tx.kind = .read ∧ tx.addr = wordOf w.nextRead.1 ∧ tx.count = w.nextRead.2 ∧ tx.data = [] ∧ tx.issuer = .copierRead ∧
        u.dist.copier = some { w with phase := .reading }) ∧
    (∀ chunk, w.phase = .toWrite chunk →
      tx.kind = .write ∧ tx.addr = wordOf (w.nextWrite chunk).1 ∧ tx.count = (w.nextWrite chunk).2.length ∧
        tx.data = wholeWords (w.nextWrite chunk).2 ∧ tx.issuer = .copierWrite ∧
        u.dist.copier = some { w with phase := .writing chunk.length }) := by intro _ other; cases other
  fetch : ∀ f, r = .submissionFetch → s.subm.fetch = some f →
    tx.kind = .read ∧ tx.addr = wordOf f.slot ∧ tx.count = 3 ∧ tx.data = [] ∧ tx.issuer = .fetch ∧
      u.subm.fetch = some { f with issued := true } := by intro _ other; cases other
  publication : ∀ w, r = .reportPublisher → s.rep.pubWrite = some w →
    tx.kind = .write ∧ tx.addr = wordOf (s.rep.pubBase + publicationOffset w.index) ∧ tx.count = w.data.length ∧
      tx.data = wholeWords w.data ∧ tx.issuer = .publisher ∧ u.rep.pubWrite = some { w with issued := true } := by
    intro _ other; cases other
  piece : ∀ x rd p more, r = .passThrough → s.passRequest = some x → x.stage = .redirected rd → rd.pieces = p :: more →
    tx.kind = .read ∧ tx.tag = x.tag ∧ tx.data = [] ∧
      (p.stage = .waiting → tx.addr = p.addr ∧ tx.count = p.count ∧ tx.issuer = .piece x.label false) ∧
      (∀ q rest, p.stage ≠ .waiting → more = q :: rest →
        tx.addr = q.addr ∧ tx.count = q.count ∧ tx.issuer = .piece x.label true) := by intro _ _ _ _ other; cases other

/-- The transaction a grant issues, from its kind, address, words and issuer. -/
def State.txOf (s : State) (us : Nat) (kind : TxKind) (addr : Word) (count : Nat) (tag : Tag) (data : List WriteWord)
    (issuer : Issuer) : DownTx :=
  { kind := kind, addr := addr, count := count, tag := tag, data := data, issuer := issuer, issuedAt := us,
    limit := s.prof.active.responseLimit, timedOut := false }

/-- The refusal of the owner's waiting LOCKED READs changes the open transactions, the counters and the responses at most (R17). -/
theorem State.refuseSecond_frame (s : State) (g : Tag) :
    ∃ l c x, s.refuseSecond g = ({ s with counters := c, responses := x } : State).setUp l := by
  have all : ∀ (ts : List UpTx) (u : State), ∃ l c x,
      ts.foldl (fun v t => (v.closeUp (errorResponse t.label t.tag)).bump .refused) u =
        ({ u with counters := c, responses := x } : State).setUp l := by
    intro ts
    induction ts with
    | nil => exact fun u => ⟨u.path.up, u.counters, u.responses, rfl⟩
    | cons t ts ih =>
      intro u
      obtain ⟨l, c, x, e⟩ := ih ((u.closeUp (errorResponse t.label t.tag)).bump .refused)
      exact ⟨l, c, x, e⟩
  exact all _ s

/-- The lock a LOCKED READ opens at its grant (R17). -/
def UpTx.lockAt (t : UpTx) (us limit : Nat) : Lock := { owner := t.tag, addr := t.addr, start := us, limit := limit }

/-- The lock after a forwarded grant (R17, R18). -/
def State.lockAfter (s : State) (t : UpTx) (us : Nat) : Option Lock :=
  if t.kind = .lockedRead then some (t.lockAt us s.prof.active.lockLimit)
  else
    match s.path.lock with
    | some l => if t.kind.isWrite && t.tag == l.owner && t.addr == l.addr then none else some l
    | none => none

/-- A forwarded grant's effect on the lock: besides, the owner's second LOCKED READs may be refused. -/
theorem State.lockOver_frame (s : State) (t : UpTx) (us : Nat) :
    ∃ l c x, s.lockOver t us = (({ s with counters := c, responses := x } : State).setUp l).setLock (s.lockAfter t us) := by
  unfold State.lockOver State.lockAfter
  split
  · obtain ⟨l, c, x, e⟩ := (s.setLock (some (t.lockAt us s.prof.active.lockLimit))).refuseSecond_frame t.tag
    exact ⟨l, c, x, e⟩
  · cases held : s.path.lock with
    | none => exact ⟨s.path.up, s.counters, s.responses, by simp only [← held]; rfl⟩
    | some l =>
      simp only []
      split
      · exact ⟨s.path.up, s.counters, s.responses, rfl⟩
      · exact ⟨s.path.up, s.counters, s.responses, by rw [← held]; rfl⟩

/-- A forwarded transaction that is no redirected read goes to memory as it was taken (R2, R17, R18). -/
theorem State.issuePass_forward (s : State) (x : UpTx) (d : Label) (us : Nat) (plain : ∀ r, x.stage ≠ .redirected r) :
    Issues s (s.issuePass x d us) d us (s.txOf us x.kind.downstream x.addr x.count x.tag x.data (.forward x.label)) ∧
      (s.issuePass x d us).path.lock = s.lockAfter x us := by
  have shape : s.issuePass x d us =
      ((s.setStage x.label .issued).lockOver x us).issue d us x.kind.downstream x.addr x.count x.tag x.data (.forward x.label) := by
    unfold State.issuePass
    split
    · next r e => exact absurd e (plain r)
    · rfl
  obtain ⟨l, c, y, e⟩ := (s.setStage x.label .issued).lockOver_frame x us
  rw [shape, e]
  exact ⟨⟨rfl, rfl, rfl, rfl, rfl, rfl, rfl, rfl, rfl, rfl, rfl, rfl, rfl, rfl⟩, rfl⟩

/-- A grant of a redirected read issues its first waiting piece, or else its second (R105). -/
theorem State.issuePass_piece (s : State) (x : UpTx) (rd : Redirect) (d : Label) (us : Nat) (stage : x.stage = .redirected rd)
    (requests : x.stage.requests = true) :
    ∃ tx, Issues s (s.issuePass x d us) d us tx ∧ tx.kind = .read ∧ tx.tag = x.tag ∧ tx.data = [] ∧
      ∀ p more, rd.pieces = p :: more →
        (p.stage = .waiting → tx.addr = p.addr ∧ tx.count = p.count ∧ tx.issuer = .piece x.label false) ∧
        (∀ q rest, p.stage ≠ .waiting → more = q :: rest →
          tx.addr = q.addr ∧ tx.count = q.count ∧ tx.issuer = .piece x.label true) := by
  have shape : s.issuePass x d us = s.issuePiece x rd d us := by
    unfold State.issuePass
    rw [stage]
  rw [shape]
  rw [stage] at requests
  unfold State.issuePiece
  split
  · next none_ =>
    simp [UpStage.requests, none_] at requests
  · next p rest pieces =>
    split
    · next first =>
      refine ⟨s.txOf us .read p.addr p.count x.tag [] (.piece x.label false),
        ⟨rfl, rfl, rfl, rfl, rfl, rfl, rfl, rfl, rfl, rfl, rfl, rfl, rfl, rfl⟩, rfl, rfl, rfl, ?_⟩
      intro _ _ split
      cases pieces.symm.trans split
      exact ⟨fun _ => ⟨rfl, rfl, rfl⟩, fun _ _ later => absurd first later⟩
    · next later =>
      split
      · next q more =>
        refine ⟨s.txOf us .read q.addr q.count x.tag [] (.piece x.label true),
          ⟨rfl, rfl, rfl, rfl, rfl, rfl, rfl, rfl, rfl, rfl, rfl, rfl, rfl, rfl⟩, rfl, rfl, rfl, ?_⟩
        intro _ _ split
        cases pieces.symm.trans split
        refine ⟨fun first => absurd first later, ?_⟩
        rintro _ _ _ ⟨⟩
        exact ⟨rfl, rfl, rfl⟩
      · simp [UpStage.requests, pieces, later] at requests

/-- The head entry of the Pointer Writer's list goes out, and its block is placed (R16, R209). -/
theorem State.issuePointer_issues (s : State) (e : PointerEntry) (rest : List PointerEntry) (a : Nat) (d : Label) (us : Nat) :
    Issues s (s.issuePointer e rest a d us) d us
        (s.txOf us .write (wordOf a) e.value.length 0 (wholeWords e.value)
          (if e.target = .eventWord then .eventWord else .pointer)) ∧
      (s.issuePointer e rest a d us).path.pointer = rest ∧
      (s.issuePointer e rest a d us).rep.afterIssue = if e.target = .eventWord then 0 else s.rep.afterIssue := by
  unfold State.issuePointer State.noteIssue
  split
  · exact ⟨⟨rfl, rfl, rfl, rfl, rfl, rfl, rfl, rfl, rfl, rfl, rfl, rfl, rfl, rfl⟩, rfl, rfl⟩
  · exact ⟨⟨rfl, rfl, rfl, rfl, rfl, rfl, rfl, rfl, rfl, rfl, rfl, rfl, rfl, rfl⟩, rfl, rfl⟩

/-- A grant issues one transaction for its requester, and then the turn and the streak move (R2, R13 to R15). -/
theorem State.grantTo_issues (s : State) (r : Requester) (d : Label) (us : Nat) (request : s.hasRequest r = true)
    (placed : r = .pointerWriter → ∃ e rest a, s.path.pointer = e :: rest ∧ s.targetAddr e.target = some a) :
    ∃ u tx, s.grantTo r d us = u.afterGrant r s.internalWaits ∧ Issues s u d us tx ∧ Carries s u r tx := by
  cases r with
  | passThrough =>
    obtain ⟨x, pass⟩ := Option.isSome_iff_exists.1 request
    have requests := oldestReady_requests _ _ _ _ pass
    have granted : s.grantTo .passThrough d us = (s.issuePass x d us).afterGrant .passThrough s.internalWaits := by
      unfold State.grantTo
      rw [pass]
    by_cases redirected : ∃ rd, x.stage = .redirected rd
    · obtain ⟨rd, stage⟩ := redirected
      obtain ⟨tx, issues, kind, tag, data, pieces⟩ := s.issuePass_piece x rd d us stage requests
      refine ⟨_, tx, granted, issues, { piece := ?_ }⟩
      intro y ry p more _ passed stageY split
      obtain rfl := Option.some.inj (pass.symm.trans passed)
      rw [stage] at stageY
      cases stageY
      exact ⟨kind, tag, data, pieces p more split⟩
    · have plain : ∀ rd, x.stage ≠ .redirected rd := fun rd e => redirected ⟨rd, e⟩
      refine ⟨_, _, granted, (s.issuePass_forward x d us plain).1, { piece := ?_ }⟩
      intro y ry p more _ passed stageY _
      obtain rfl := Option.some.inj (pass.symm.trans passed)
      exact absurd stageY (plain ry)
  | pointerWriter =>
    obtain ⟨e, rest, a, head, addr⟩ := placed rfl
    obtain ⟨issues, pointer, after⟩ := s.issuePointer_issues e rest a d us
    refine ⟨_, _, ?_, issues, { tag := fun _ => rfl, pointer := ?_ }⟩
    · unfold State.grantTo
      simp only [head, addr]
    · intro e' rest' a' _ head' addr'
      rw [head] at head'
      cases head'
      rw [addr] at addr'
      cases addr'
      exact ⟨rfl, rfl, rfl, rfl, rfl, pointer, after⟩
  | copier =>
    unfold State.hasRequest at request
    cases work : s.dist.copier with
    | none => simp [work] at request
    | some w =>
      have granted : s.grantTo .copier d us = (s.issueCopier w d us).afterGrant .copier s.internalWaits := by
        unfold State.grantTo
        rw [work]
      cases phase : w.phase with
      | toRead =>
        refine ⟨_, s.txOf us .read (wordOf w.nextRead.1) w.nextRead.2 0 [] .copierRead, granted, ?_,
          { tag := fun _ => rfl, copier := ?_ }⟩
        · unfold State.issueCopier
          rw [phase]
          exact ⟨rfl, rfl, rfl, rfl, rfl, rfl, rfl, rfl, rfl, rfl, rfl, rfl, rfl, rfl⟩
        · intro w' _ work'
          obtain rfl := Option.some.inj (work.symm.trans work')
          refine ⟨fun _ => ⟨rfl, rfl, rfl, rfl, rfl, ?_⟩, fun chunk other => absurd (phase.symm.trans other) nofun⟩
          unfold State.issueCopier
          rw [phase]
          rfl
      | toWrite chunk =>
        refine ⟨_, s.txOf us .write (wordOf (w.nextWrite chunk).1) (w.nextWrite chunk).2.length 0
          (wholeWords (w.nextWrite chunk).2) .copierWrite, granted, ?_, { tag := fun _ => rfl, copier := ?_ }⟩
        · unfold State.issueCopier
          rw [phase]
          exact ⟨rfl, rfl, rfl, rfl, rfl, rfl, rfl, rfl, rfl, rfl, rfl, rfl, rfl, rfl⟩
        · intro w' _ work'
          obtain rfl := Option.some.inj (work.symm.trans work')
          refine ⟨fun other => absurd (phase.symm.trans other) nofun, fun chunk' same => ?_⟩
          cases phase.symm.trans same
          refine ⟨rfl, rfl, rfl, rfl, rfl, ?_⟩
          unfold State.issueCopier
          rw [phase]
          rfl
      | reading => simp [work, phase, Phase.isOpen] at request
      | writing n => simp [work, phase, Phase.isOpen] at request
  | submissionFetch =>
    unfold State.hasRequest at request
    cases fetch : s.subm.fetch with
    | none => simp [fetch] at request
    | some f =>
      refine ⟨s.issueFetch f d us, s.txOf us .read (wordOf f.slot) 3 0 [] .fetch, ?_,
        ⟨rfl, rfl, rfl, rfl, rfl, rfl, rfl, rfl, rfl, rfl, rfl, rfl, rfl, rfl⟩, { tag := fun _ => rfl, fetch := ?_ }⟩
      · unfold State.grantTo
        rw [fetch]
      · intro f' _ fetch'
        obtain rfl := Option.some.inj (fetch.symm.trans fetch')
        exact ⟨rfl, rfl, rfl, rfl, rfl, rfl⟩
  | reportPublisher =>
    unfold State.hasRequest at request
    cases write : s.rep.pubWrite with
    | none => simp [write] at request
    | some w =>
      refine ⟨s.issuePublication w d us, s.txOf us .write (wordOf (s.rep.pubBase + publicationOffset w.index)) w.data.length 0
        (wholeWords w.data) .publisher, ?_,
        ⟨rfl, rfl, rfl, rfl, rfl, rfl, rfl, rfl, rfl, rfl, rfl, rfl, rfl, rfl⟩, { tag := fun _ => rfl, publication := ?_ }⟩
      · unfold State.grantTo
        rw [write]
      · intro w' _ write'
        obtain rfl := Option.some.inj (write.symm.trans write')
        exact ⟨rfl, rfl, rfl, rfl, rfl, rfl⟩

/-- The move of turn and streak changes nothing else (R14, R15). -/
theorem State.afterGrant_frame (u : State) (r : Requester) (waited : Bool) :
    ∃ t n, u.afterGrant r waited = { u with path := { u.path with turn := t, streak := n } } := by
  unfold State.afterGrant
  (repeat' split) <;> exact ⟨_, _, rfl⟩

/-- Turn and streak after a grant, by the arbitration mode (R14, R15). -/
theorem State.afterGrant_turn (u : State) (r : Requester) (waited : Bool) :
    (u.prof.active.roundRobin = true →
        (u.afterGrant r waited).path.turn = r ∧ (u.afterGrant r waited).path.streak = u.path.streak) ∧
      (u.prof.active.roundRobin = false → r = .passThrough → (u.afterGrant r waited).path.turn = u.path.turn ∧
        (u.afterGrant r waited).path.streak = if waited then min 8 (u.path.streak + 1) else 0) ∧
      (u.prof.active.roundRobin = false → r ≠ .passThrough →
        (u.afterGrant r waited).path.turn = r ∧ (u.afterGrant r waited).path.streak = 0) := by
  unfold State.afterGrant
  refine ⟨fun rr => ?_, fun transit pass => ?_, fun transit internal => ?_⟩
  · rw [if_pos rr]
    exact ⟨rfl, rfl⟩
  · rw [if_neg (by simp [transit]), if_pos pass]
    exact ⟨rfl, rfl⟩
  · rw [if_neg (by simp [transit]), if_neg internal]
    exact ⟨rfl, rfl⟩

/-! ## Ends of forwarded transactions (R2, R8, R11, R17, R19, R20) -/

/-- An OK answer of a forwarded transaction that fits it (R2). -/
theorem exec_memoryAnswer_ok (s : State) (d : Label) (t : DownTx) (u : UpTx) (data : List Word)
    (awaited : s.awaits d t (.forward u.label)) (fits : t.fits data = true) :
    exec (.memoryAnswer d (.ok data)) s = .next ((s.setDown d none).forwardOk u.label data) := by
  have ⟨_, _, _, issuer⟩ := awaited
  calc exec (.memoryAnswer d (.ok data)) s
      = s.answerOpen d t (.ok data) := s.answer_awaited Issuer.isForward d t _ _ awaited rfl
    _ = .next ((s.setDown d none).succeed t data) := if_pos fits
    _ = _ := by rw [State.succeed, issuer]

theorem DownTx.fits_write (t : DownTx) (data : List Word) (write : t.kind = .write) : t.fits data = true := by
  simp [DownTx.fits, write]

theorem DownTx.fits_read (t : DownTx) (data : List Word) (kind : t.kind = .read ∨ t.kind = .lockedRead)
    (length : data.length = t.count) : t.fits data = true := by
  cases kind with
  | inl read => simp [DownTx.fits, read, length]
  | inr locked => simp [DownTx.fits, locked, length]

/-- The answer of a forwarded read (R2, R8, R210). -/
theorem State.forwardOk_read (s : State) (u : UpTx) (data : List Word) (open_ : s.upTx u.label = some u)
    (read : u.kind.isWrite = false) :
    s.forwardOk u.label data =
      if u.eventRead then (s.closeUp (okResponse u.label u.tag data)).clearOnRead (highHalf (data.getD 0 0))
      else s.closeUp (okResponse u.label u.tag data) := by
  unfold State.forwardOk
  simp only [open_, read, Bool.false_eq_true, if_false]

/-- The answer of a forwarded write that hands nothing on (R2, R11). -/
theorem State.forwardOk_write (s : State) (u : UpTx) (data : List Word) (open_ : s.upTx u.label = some u)
    (write : u.kind.isWrite = true) (nothing : u.handOn = []) :
    s.forwardOk u.label data = s.closeUp (okResponse u.label u.tag []) := by
  unfold State.forwardOk
  simp only [open_, write, nothing, if_true, List.foldl_nil]

/-- A forwarded transaction's failure after PATH_FAULT: the lock is closed where the failed LOCKED READ opened it (R17, R19). -/
theorem State.pathFault_failTo_forward (s : State) (t : DownTx) (u : UpTx) (issuer : t.issuer = .forward u.label)
    (open_ : s.upTx u.label = some u) :
    (s.pathFault t).failTo t = ((s.raise .pathFault).closeOpened t).closeUp (errorResponse u.label u.tag) := by
  have raised : s.pathFault t = s.raise .pathFault := s.pathFault_of_ne_eventWord t (by simp [issuer])
  have still : (s.raise .pathFault).upTx u.label = some u := by rw [State.upTx_congr (s.up_raise .pathFault), open_]
  rw [raised]
  unfold State.failTo
  simp only [issuer, State.forwardFailed, still]

/-- PATH_FAULT leaves the lock. -/
theorem State.lock_raise (s : State) (e : Event) : (s.raise e).path.lock = s.path.lock := by
  obtain ⟨l, b, h⟩ := s.raise_eq e
  rw [h]
  rfl

/-- A failed transaction that opened no lock leaves the lock (R17). -/
theorem State.closeOpened_other (s : State) (t : DownTx)
    (other : ∀ l, s.path.lock = some l →
      ¬ (t.kind = .lockedRead ∧ l.owner = t.tag ∧ l.addr = t.addr ∧ l.start = t.issuedAt)) :
    s.closeOpened t = s := by
  unfold State.closeOpened
  split
  · next l held => exact if_neg (other l held)
  · rfl

/-- A failed LOCKED READ closes the lock it opened (R17). -/
theorem State.closeOpened_opened (s : State) (t : DownTx) (l : Lock) (held : s.path.lock = some l)
    (opened : t.kind = .lockedRead ∧ l.owner = t.tag ∧ l.addr = t.addr ∧ l.start = t.issuedAt) :
    s.closeOpened t = s.setLock none := by
  unfold State.closeOpened
  simp only [held, if_pos opened]

/-- Memory's ERROR for an awaited transaction (R20). -/
theorem exec_memoryError (s : State) (accepts : Issuer → Bool) (d : Label) (t : DownTx) (i : Issuer) (awaited : s.awaits d t i)
    (accepted : accepts i = true) :
    s.answer accepts d .error = .next (((((s.setDown d none).bump .memoryError).pathFault t)).failTo t) :=
  s.answer_awaited accepts d t i .error awaited accepted

/-- The response limit reached for an awaited transaction (R19). -/
theorem exec_responseLimitExpiry (s : State) (d : Label) (us : Nat) (t : DownTx) (i : Issuer) (awaited : s.awaits d t i) :
    exec (.responseLimitExpiry d us) s = .next (if t.issuedAt + t.limit ≤ us then
      ((((s.setDown d (some { t with timedOut := true })).bump .pathTimeout).pathFault t)).failTo t else s) := by
  have ⟨⟨up, _⟩, _⟩ := awaited
  calc exec (.responseLimitExpiry d us) s
      = .next (s.limitExpiry d us) := congrArg _ (if_pos up)
    _ = _ := congrArg _ (s.limitExpiry_awaited d us t i awaited)

/-- An answer for a label not in use or timed out is late, whichever row brings it (R2, R19). -/
theorem State.answer_late (s : State) (accepts : Issuer → Bool) (d : Label) (a : Answer) (linked : s.linked)
    (late : ∀ t, s.downTx d = some t → t.timedOut = true) : s.answer accepts d a = .next (s.lateAnswer d) := by
  obtain ⟨up, awake⟩ := linked
  unfold State.answer
  simp only [up, awake, Bool.not_true, Bool.or_self, Bool.false_eq_true, if_false]
  split
  · rfl
  · next t open_ => exact if_pos (late t open_)

end Sys2Proof.Machine

namespace Sys2Proof.Proofs
open Sys2Proof.Machine

/-- Settles O17: a grant issues one transaction for its requester, and `afterGrant` moves the turn and the streak alone. -/
theorem grantIssuesOneTransaction : Obligations.GrantIssuesOneTransaction := by
  intro s d us r linked free chosen
  have run := exec_arbiterGrant s d us r linked free chosen
  constructor
  · rintro e rest rfl head unplaced
    rw [run, State.grantTo]
    simp only [head, unplaced]
    rfl
  · intro placed
    obtain ⟨u, tx, granted, issues, carries⟩ := s.grantTo_issues r d us (State.hasRequest_grantee chosen) placed
    obtain ⟨roundRobin, transit, internal⟩ := u.afterGrant_turn r s.internalWaits
    rw [issues.prof, issues.streak] at roundRobin
    rw [issues.prof, issues.streak, issues.turn] at transit
    rw [issues.prof] at internal
    obtain ⟨turn, streak, frame⟩ := u.afterGrant_frame r s.internalWaits
    refine ⟨_, tx, run.trans (congrArg _ granted), ?_, issues.issued, issues.limit, issues.live, roundRobin, transit, internal,
      ?_⟩
    · rw [frame]
      exact issues.down
    · rw [frame]
      exact ⟨issues.pairs, issues.reseq, issues.deliv, issues.sup, issues.surge, issues.prof, issues.clock, issues.pins,
        carries.tag, carries.pointer, carries.copier, carries.fetch, carries.publication, carries.piece⟩

/-- Settles O18. -/
theorem arbitrationChoice : Obligations.ArbitrationChoice := by
  intro s
  unfold State.grantee
  refine ⟨fun transit pass short => ?_, fun transit pass none_ => ?_, fun transit full some_ => ?_, fun transit none_ => ?_,
    fun r h => State.internalChoice_spec h, fun rr => if_pos rr⟩
  · simp [transit, pass, short]
  · simp [transit, pass, none_]
  · simp [transit, full, Option.isSome_iff_ne_none.2 some_]
  · simp [transit, none_]

/-- Settles O19. -/
theorem lockOpensAndClosesAtGrants : Obligations.LockOpensAndClosesAtGrants := by
  intro s d us x linked free chosen pass waiting
  obtain ⟨issues, lock⟩ := s.issuePass_forward x d us (by simp [waiting])
  obtain ⟨turn, streak, frame⟩ := (s.issuePass x d us).afterGrant_frame .passThrough s.internalWaits
  have run : exec (.arbiterGrant d us) s = .next ((s.issuePass x d us).afterGrant .passThrough s.internalWaits) := by
    rw [exec_arbiterGrant s d us .passThrough linked free chosen, State.grantTo, pass]
  have after : ((s.issuePass x d us).afterGrant .passThrough s.internalWaits).path.lock = s.lockAfter x us := by
    rw [frame]
    exact lock
  refine ⟨_, run, ?_, ?_, ?_, s.txOf us x.kind.downstream x.addr x.count x.tag x.data (.forward x.label), ?_, rfl, rfl, rfl, rfl,
    rfl, rfl⟩
  · intro locked
    rw [after, State.lockAfter, if_pos locked]
    rfl
  · intro l other held
    rw [after, State.lockAfter, if_neg other, held]
    simp only [Bool.and_eq_true, beq_iff_eq, and_assoc]
    exact ⟨fun closes => if_pos closes, fun keeps => if_neg keeps⟩
  · intro other none_
    rw [after, State.lockAfter, if_neg other, none_]
  · rw [frame]
    exact issues.down

/-- Settles O20. -/
theorem lockLimitBreaksTheLock : Obligations.LockLimitBreaksTheLock := by
  intro s us l up held
  have run : exec (.lockLimitExpiry us) s = .next (s.breakLock us) := congrArg _ (if_pos up)
  rw [run, State.breakLock, held]
  exact ⟨fun reached => congrArg _ (if_pos reached), fun early => congrArg _ (if_neg (Nat.not_le.2 early))⟩

/-- Settles O21. -/
theorem forwardedAnswersReturned : Obligations.ForwardedAnswersReturned := by
  intro s d t u data awaited open_
  have still : (s.setDown d none).upTx u.label = some u := open_
  constructor
  · intro read kind length
    have run := exec_memoryAnswer_ok s d t u data awaited (t.fits_read data kind length)
    rw [State.forwardOk_read _ u data still read] at run
    exact ⟨fun plain => run.trans (congrArg _ (if_neg (by simp [plain]))), fun event => run.trans (congrArg _ (if_pos event))⟩
  · intro write kind nothing
    rw [exec_memoryAnswer_ok s d t u data awaited (t.fits_write data kind), State.forwardOk_write _ u data still write nothing]

/-- Settles O22. -/
theorem forwardedFailures : Obligations.ForwardedFailures := by
  intro s d us t u awaited open_ fails opened
  have ⟨_, _, _, issuer⟩ := awaited
  have answered : exec (.memoryAnswer d .error) s = .next ((((((s.setDown d none).bump .memoryError).raise
      .pathFault).closeOpened t).closeUp (errorResponse u.label u.tag))) := by
    calc exec (.memoryAnswer d .error) s
        = _ := exec_memoryError s Issuer.isForward d t _ awaited rfl
      _ = _ := congrArg _ (State.pathFault_failTo_forward _ t u issuer open_)
  have expired := exec_responseLimitExpiry s d us t _ awaited
  have ended : t.issuedAt + t.limit ≤ us → exec (.responseLimitExpiry d us) s =
      .next ((((((s.setDown d (some { t with timedOut := true })).bump .pathTimeout).raise .pathFault).closeOpened t).closeUp
        (errorResponse u.label u.tag))) := fun reached => by
    rw [expired, if_pos reached]
    exact congrArg _ (State.pathFault_failTo_forward _ t u issuer open_)
  refine ⟨fun other => ?_, fun l held own => ?_, fun early => ?_⟩
  · have kept : ∀ v : State, v.path.lock = s.path.lock →
        (v.raise .pathFault).closeOpened t = v.raise .pathFault := fun v same =>
      State.closeOpened_other _ t fun l held => other l (by rw [← same, ← v.lock_raise .pathFault, held])
    rw [kept ((s.setDown d none).bump .memoryError) rfl] at answered
    rw [kept ((s.setDown d (some { t with timedOut := true })).bump .pathTimeout) rfl] at ended
    exact ⟨answered, ended⟩
  · have closed : ∀ v : State, v.path.lock = s.path.lock →
        (v.raise .pathFault).closeOpened t = (v.raise .pathFault).setLock none := fun v same =>
      State.closeOpened_opened _ t l (by rw [v.lock_raise, same, held]) own
    rw [closed ((s.setDown d none).bump .memoryError) rfl] at answered
    rw [closed ((s.setDown d (some { t with timedOut := true })).bump .pathTimeout) rfl] at ended
    exact ⟨answered, ended⟩
  · rw [expired, if_neg (Nat.not_le.2 early)]

/-- Settles O23. -/
theorem lateAnswersDiscarded : Obligations.LateAnswersDiscarded := by
  intro s d a linked timedOut late
  have answered := fun accepts => s.answer_late accepts d a linked timedOut
  obtain ⟨up, awake⟩ := linked
  have discarded : s.discardLate d = s.lateAnswer d := by
    unfold State.discardLate
    simp only [awake, Bool.false_eq_true, if_false]
    split
    · rfl
    · next t open_ => exact if_pos (timedOut t open_)
  have row : exec (.lateAnswer d) s = late := by
    calc exec (.lateAnswer d) s
        = .next (s.discardLate d) := congrArg _ (if_pos up)
      _ = late := congrArg _ discarded
  exact ⟨row, answered _, answered _, answered _, answered _, answered _, answered _, answered _, answered _⟩

end Sys2Proof.Proofs
end

section
/-! What the owning blocks do with a watched write once memory has answered it OK: the three consumer and producer counts, and the Profile
Unit's capture and commits (R109, R110, R120, R141, R198 to R201). -/

-- Theorem by theorem: the check's thread stacks leave no memory for many proofs at once behind the slow tests.
set_option Elab.async false

namespace Sys2Proof.Machine

/-- A forwarded WRITE with one hand-on, answered OK (R2, R11). -/
theorem exec_memoryAnswer_one (s : State) (d : Label) (t : DownTx) (u : UpTx) (x : HandOn) (data : List Word)
    (awaited : s.awaitsWrite d t u) (one : u.handOn = [x]) :
    exec (.memoryAnswer d (.ok data)) s = .next ((s.writeAnswered d u).handOn x) := by
  rw [exec_memoryAnswer_write s d t u data awaited, one]
  rfl

/-! ## The delivery consumer count (R109 to R111) -/

/-- The leave from the queue's old end changes the queue, its oldest count and the room notices (R111). -/
theorem State.leaveQueue_frame (s : State) :
    ∃ q o n, s.leaveQueue = { s with deliv := { s.deliv with queue := q, oldest := o, roomNotices := n } } := by
  unfold State.leaveQueue
  simp only []
  split
  · exact ⟨s.deliv.queue, s.deliv.oldest, s.deliv.roomNotices, rfl⟩
  · exact ⟨_, _, _, rfl⟩

/-- A valid advance becomes the count; the pairs, the Delivery Queue, FRAMES_RETIRED and the Pointer Writer's list change beside it. -/
theorem State.takeConsumer_valid (s : State) (v : Half) (moves : distance v s.deliv.consumer ≠ 0)
    (valid : distance v s.deliv.consumer ≤ distance s.deliv.producer s.deliv.consumer) :
    ∃ q o n pairs l, s.takeConsumer v =
      ({ s with
        pairs := pairs, counters := (s.bump .framesRetired (distance v s.deliv.consumer)).counters
        deliv := { s.deliv with queue := q, oldest := o, roomNotices := n, consumer := v } } : State).setPointer l := by
  obtain ⟨pairs, l, retired⟩ := s.retire_frame (distance v s.deliv.consumer)
  unfold State.takeConsumer
  simp only [if_neg (Nat.not_lt.2 valid), if_neg moves, retired]
  obtain ⟨q, o, n, left⟩ := State.leaveQueue_frame _
  exact ⟨q, o, n, pairs, l, left⟩

/-! ## Commits (R198 to R200) -/

/-- The captured commit word, before its commit. -/
def State.captured (s : State) (w : Word) : State := s.modProf fun x => { x with image := x.image.setField 0 w }

/-- A captured commit word alone makes its commit (R198, R199). -/
theorem State.capture_commit (s : State) (w : Word) : s.capture [(0, w)] = (s.captured w).commit w := rfl

/-- A captured write without the commit word replaces the image's words (R198). -/
theorem State.capture_words (s : State) (words : List (Nat × Word)) (others : ∀ x ∈ words, x.1 ≠ 0) :
    s.capture words = s.modProf fun u => { u with image := words.foldl (fun a x => a.setField x.1 x.2) u.image } := by
  have none_ : words.find? (fun x => x.1 == 0) = none := List.find?_eq_none.2 fun x hx => by simp [others x hx]
  unfold State.capture
  rw [none_]

/-- No commit waits after a waiting one has been replaced; else the Profile Unit is as it was (R199). -/
theorem State.replaceWaiting_prof (s : State) : s.replaceWaiting.prof = { s.prof with waiting := none } := by
  unfold State.replaceWaiting
  split
  · rfl
  · next empty =>
    have : s.prof.waiting = none := by simpa using empty
    rw [← this]

/-- The tests of an application look at nothing that a replaced waiting commit changes. -/
theorem State.replaceWaiting_faults (s : State) (a : Image) :
    s.replaceWaiting.overlapFault a = s.overlapFault a ∧ s.replaceWaiting.liveFault a = s.liveFault a ∧
      s.replaceWaiting.freeIndex = s.freeIndex := by
  unfold State.replaceWaiting
  split
  · exact ⟨rfl, rfl, rfl⟩
  · exact ⟨rfl, rfl, rfl⟩

/-- The commit of a word, by its mode (R199). -/
theorem State.commit_mode (s : State) (w : Word) :
    (byteOf w 2 = 1 → s.commit w = s.replaceWaiting.applyCommit (highHalf w)) ∧
      (byteOf w 2 = 2 → s.commit w = s.replaceWaiting.modProf fun u => { u with waiting := some (highHalf w) }) ∧
      (byteOf w 2 ≠ 1 → byteOf w 2 ≠ 2 → s.commit w = s.replaceWaiting.reject (highHalf w) .range 0) := by
  unfold State.commit
  refine ⟨fun now => if_pos now, fun epoch => ?_, fun notNow notEpoch => ?_⟩
  · simp only [epoch, if_neg (show (2 : Byte) ≠ 1 by decide), if_true]
  · simp only [if_neg notNow, if_neg notEpoch]

/-- The verdict on a pending profile, test by test (R200). -/
theorem State.validate_range (s : State) (a : Image) (f : Nat) (range : a.rangeFault = some f) : s.validate a = .range f := by
  unfold State.validate
  rw [range]

theorem State.validate_overlap (s : State) (a : Image) (range : a.rangeFault = none) (overlap : s.overlapFault a = true) :
    s.validate a = .overlap := by
  unfold State.validate
  simp only [range, overlap, if_true]

theorem State.validate_live (s : State) (a : Image) (f : Nat) (range : a.rangeFault = none) (overlap : s.overlapFault a = false)
    (live : s.liveFault a = some f) : s.validate a = .liveRing f := by
  unfold State.validate
  simp only [range, overlap, live, Bool.false_eq_true, if_false]

theorem State.validate_pin (s : State) (a : Image) (f : Nat) (range : a.rangeFault = none) (overlap : s.overlapFault a = false)
    (live : s.liveFault a = none) (pin : a.pinFault = some f) : s.validate a = .pinConflict f := by
  unfold State.validate
  simp only [range, overlap, live, pin, Bool.false_eq_true, if_false]

/-- What an application does by its verdict (R200). -/
def State.obey (s : State) (serial : Half) : Verdict → State
  | .accept => s.accept serial
  | .range f => s.reject serial .range (halfOf f)
  | .overlap => s.rejectOverlap serial
  | .liveRing f => s.reject serial .liveRing (halfOf f)
  | .pinConflict f => s.reject serial .pinConflict (halfOf f)

theorem State.applyCommit_eq (s : State) (serial : Half) : s.applyCommit serial = s.obey serial (s.validate s.prof.image) := by
  unfold State.applyCommit State.obey
  cases s.validate s.prof.image <;> rfl

/-- The parts of a Profile Unit beside the serials acted on. -/
theorem ProfileUnit.unacted_fields {u v : ProfileUnit} (h : u.unacted = v.unacted) :
    u.image = v.image ∧ u.active = v.active ∧ u.waiting = v.waiting ∧ u.lastApplied = v.lastApplied ∧
      u.lastRejected = v.lastRejected ∧ u.rejectCode = v.rejectCode ∧ u.rejectField = v.rejectField := by
  unfold ProfileUnit.unacted at h
  simp only [ProfileUnit.mk.injEq] at h
  obtain ⟨image, active, waiting, applied, rejected, code, field, _⟩ := h
  exact ⟨image, active, waiting, applied, rejected, code, field⟩

/-! ## An accepted commit (R201) -/

/-- What follows the adoption of the pending profile keeps what a commit tells (R201). -/
theorem State.accept_told (s : State) (serial : Half) : Told (s.adopt serial) (s.accept serial) := by
  unfold State.accept
  exact (State.tellBlocks_told _ _ _ _).trans (State.passRequests_told _)

/-- The Profile Unit after an accepted commit, but for the serials acted on. -/
theorem State.accept_unacted (s : State) (serial : Half) :
    (s.accept serial).prof.unacted = (s.activated serial).prof.unacted := by
  rw [(s.accept_told serial).unacted, (s.adopt_keeps serial).prof]

/-- An accepted commit raises PROFILE_APPLIED and leaves the clock. -/
theorem State.accept_applied (s : State) (serial : Half) :
    (s.accept serial).rep.events.getLsbD Event.profileApplied.bit.val = true ∧ (s.accept serial).clock = s.clock := by
  constructor
  · refine (s.accept_told serial).events _ ?_
    rw [State.adopt, State.bump_rep, State.raise_events, BitVec.getLsbD_or, Event.mask_bit, Bool.or_true]
  · rw [(s.accept_told serial).clock, (s.adopt_keeps serial).told.clock]
    rfl

end Sys2Proof.Machine

namespace Sys2Proof.Proofs
open Sys2Proof.Machine

/-- Settles O24. -/
theorem transmitConsumerCountTaken : Obligations.TransmitConsumerCountTaken := by
  intro s d t u p v data awaited handed r
  rw [exec_memoryAnswer_one s d t u _ data awaited handed]
  exact ⟨fun valid => congrArg _ (if_neg (Nat.not_lt.2 valid)), fun beyond => congrArg _ (if_pos beyond)⟩

/-- Settles O25. -/
theorem deliveryConsumerCountTaken : Obligations.DeliveryConsumerCountTaken := by
  intro s d t u v data awaited handed a o
  have run : exec (.memoryAnswer d (.ok data)) s = .next ((s.writeAnswered d u).takeConsumer v) :=
    exec_memoryAnswer_one s d t u _ data awaited handed
  rw [run]
  refine ⟨fun beyond => congrArg _ (if_pos beyond), fun still => congrArg _ ?_, fun moves valid => ?_⟩
  · unfold State.takeConsumer
    have within : ¬ distance v (s.writeAnswered d u).deliv.consumer >
        distance (s.writeAnswered d u).deliv.producer (s.writeAnswered d u).deliv.consumer :=
      Nat.not_lt.2 (by rw [show distance v (s.writeAnswered d u).deliv.consumer = 0 from still]; exact Nat.zero_le _)
    simp only [if_neg within]
    exact if_pos still
  · obtain ⟨q, oldest, n, pairs, l, taken⟩ := (s.writeAnswered d u).takeConsumer_valid v moves valid
    refine ⟨_, rfl, ?_⟩
    rw [taken]
    exact ⟨rfl, rfl, State.count_bump_self (s.writeAnswered d u) .framesRetired a, rfl, rfl, rfl, rfl, rfl, rfl⟩

/-- Settles O26. -/
theorem submissionProducerCountTaken : Obligations.SubmissionProducerCountTaken := by
  intro s d t u v data awaited handed
  rw [exec_memoryAnswer_one s d t u _ data awaited handed]
  exact ⟨fun valid => congrArg _ (if_neg (Nat.not_lt.2 valid)), fun beyond => congrArg _ (if_pos beyond)⟩

/-- Settles O27. -/
theorem profileWordsCaptured : Obligations.ProfileWordsCaptured := by
  intro s d t u words data awaited handed others
  rw [exec_memoryAnswer_one s d t u _ data awaited handed]
  exact congrArg _ (State.capture_words _ words others)

/-- Settles O28. -/
theorem commitsWaitOrAreRejected : Obligations.CommitsWaitOrAreRejected := by
  intro s d t u w data awaited handed captured freed rejected
  have run : exec (.memoryAnswer d (.ok data)) s = .next (captured.commit w) :=
    exec_memoryAnswer_one s d t u _ data awaited handed
  have replaced : captured.replaceWaiting = freed := rfl
  obtain ⟨now, epoch, unknown⟩ := captured.commit_mode w
  rw [replaced] at now epoch unknown
  have image : freed.prof.image = s.prof.image.setField 0 w := by
    rw [← replaced, State.replaceWaiting_prof]
    rfl
  obtain ⟨overlap, live, index⟩ := captured.replaceWaiting_faults (s.prof.image.setField 0 w)
  rw [replaced] at overlap live index
  have verdict : ∀ v, byteOf w 2 = 1 → freed.validate (s.prof.image.setField 0 w) = v →
      exec (.memoryAnswer d (.ok data)) s = .next (freed.obey (highHalf w) v) := fun v mode valid => by
    rw [run, now mode, State.applyCommit_eq, image, valid]
  refine ⟨fun mode => run.trans (congrArg _ (epoch mode)), fun notNow notEpoch => run.trans (congrArg _ (unknown notNow notEpoch)),
    fun f mode range => verdict _ mode (freed.validate_range _ f range), fun mode range => ⟨fun overlaps => ?_, fun apart =>
      ⟨fun f lives => verdict _ mode (freed.validate_live _ f range (overlap.trans apart) (live.trans lives)),
        fun f none_ pin => verdict _ mode (freed.validate_pin _ f range (overlap.trans apart) (live.trans none_) pin)⟩⟩⟩
  have step := verdict _ mode (freed.validate_overlap _ range (overlap.trans overlaps))
  have recorded : freed.rejectOverlap (highHalf w) = { ((((freed.modProf fun x => { x with
      lastRejected := some (highHalf w), rejectCode := .overlap,
      rejectField := Config.overlapRejectField s.freeIndex }).raise .profileRejected).bump .rejected)) with
      freeIndex := s.freeIndex + 1 } := by
    unfold State.rejectOverlap State.reject
    rw [index]
    rfl
  exact step.trans (congrArg _ recorded)

/-- Settles O29: from the adoption on, what the blocks are told keeps the Profile Unit but the serials acted on, and removes no event. -/
theorem acceptedCommitAdoptsTheImage : Obligations.AcceptedCommitAdoptsTheImage := by
  intro s d t u w data awaited handed mode valid
  have run : exec (.memoryAnswer d (.ok data)) s = .next (((s.writeAnswered d u).captured w).commit w) :=
    exec_memoryAnswer_one s d t u _ data awaited handed
  generalize before : (s.writeAnswered d u).captured w = captured at run
  have prof : captured.prof = { s.prof with image := s.prof.image.setField 0 w } := by rw [← before]; rfl
  have freed : captured.replaceWaiting.prof = { s.prof with image := s.prof.image.setField 0 w, waiting := none } := by
    rw [State.replaceWaiting_prof, prof]
  have accepted : captured.commit w = captured.replaceWaiting.accept (highHalf w) := by
    have verdict : captured.replaceWaiting.validate captured.replaceWaiting.prof.image = .accept := by
      rw [freed]
      unfold State.validate
      obtain ⟨overlap, live, _⟩ := captured.replaceWaiting_faults (s.prof.image.setField 0 w)
      rw [overlap, live, ← before]
      exact valid
    rw [(captured.commit_mode w).1 mode, State.applyCommit_eq, verdict]
    rfl
  obtain ⟨image, active, waiting, lastApplied, rejected, code, field⟩ :=
    ProfileUnit.unacted_fields (captured.replaceWaiting.accept_unacted (highHalf w))
  obtain ⟨applied, clock⟩ := captured.replaceWaiting.accept_applied (highHalf w)
  have adopted : (captured.replaceWaiting.activated (highHalf w)).prof = { s.prof with
      image := s.prof.image.setField 0 w, waiting := none, active := s.prof.image.setField 0 w,
      lastApplied := some (highHalf w) } := by
    unfold State.activated State.modProf
    rw [freed]
  rw [adopted] at image active waiting lastApplied rejected code field
  have sameClock : captured.replaceWaiting.clock = s.clock := by
    rw [← before]
    unfold State.replaceWaiting
    split <;> rfl
  refine ⟨_, run.trans (congrArg _ accepted), image, active, lastApplied, waiting, rejected, code, field, applied, ?_⟩
  rw [clock, sameClock]

end Sys2Proof.Proofs
end

section
/-! The receive side: frees, the four steps of a ring write's arrival, the words of a landing, the lane check, and admission (R24, R28, R31,
R33 to R43, R50 to R56). -/

-- Theorem by theorem: the check's thread stacks leave no memory for many proofs at once behind the slow tests.
set_option Elab.async false

namespace Sys2Proof.Machine

/-- Changes of a pair's record that agree on the record are one change. -/
theorem State.modPair_congr (s : State) (p : Pair) (f g : PairRec → PairRec) (same : f (s.pair p) = g (s.pair p)) :
    s.modPair p f = s.modPair p g := by
  unfold State.modPair
  rw [show f s.pairs[p.val] = g s.pairs[p.val] from same]

/-! ## Frees and voids (R31, R39) -/

theorem State.freeUse_held (s : State) (p : Pair) (c : Nat) (use : Half) (h : Holder)
    (held : (s.pair p).cells[c]? = some (.held use h)) : s.freeUse p c use = s.cellFree p c := by
  unfold State.freeUse
  rw [held]
  exact if_pos (by simp [Cell.heldWith])

theorem State.freeUse_other (s : State) (p : Pair) (c : Nat) (use : Half)
    (other : ∀ h, (s.pair p).cells[c]? ≠ some (.held use h)) : s.freeUse p c use = s := by
  unfold State.freeUse
  split
  · next x cell =>
    refine if_neg fun held => ?_
    unfold Cell.heldWith at held
    split at held
    · next u h =>
      have same : u = use := by simpa using held
      subst same
      exact other h cell
    · cases held
  · rfl

theorem State.cellFree_cells (s : State) (p : Pair) (c : Nat) : ((s.cellFree p c).pair p).cells = (s.pair p).cells.set c .free := by
  unfold State.cellFree
  rw [State.releaseAdvance_cells, (s.vacate_pair p c).1]

theorem State.voidCell_held (s : State) (p : Pair) (c : Nat) (use : Half) (h : Holder)
    (held : (s.pair p).cells[c]? = some (.held use h)) :
    s.voidCell p c = (((s.bumpPair p .voided).vacate p c).voidNotice p c use h).releaseAdvance p := by
  unfold State.voidCell
  rw [held]

/-! ## The four steps of an arrival (R28, R36 to R38) -/

theorem State.ringArrival_out (s : State) (p : Pair) (cls : RingClass) (c o : Nat) (ws : List Word)
    (out : (s.pair p).state = .out) :
    s.ringArrival p cls c o ws = if cls = .owner then (s.voidCell p c).bumpPair p .outWrite else s.voidCell p c := by
  unfold State.ringArrival
  exact if_pos ((s.voidCell_state p p c).trans out)

theorem State.ringArrival_in (s : State) (p : Pair) (cls : RingClass) (c o : Nat) (ws : List Word)
    (notOut : (s.pair p).state ≠ .out) :
    s.ringArrival p cls c o ws =
      if cls = .owner then (((s.voidCell p c).endInProgress p cls c o).releaseAdvance p).takeOwner p c o ws
      else ((s.voidCell p c).endInProgress p cls c o).releaseAdvance p := by
  unfold State.ringArrival
  exact if_neg (by rw [s.voidCell_state p p c]; exact notOut)

/-- A landing ends without a fragment, from a record that a counter alone has changed. -/
theorem State.endLanding_bumpPair (s : State) (p : Pair) (c : PCounter) :
    (s.bumpPair p c).endLanding p =
      ((s.bumpPair p c).modPair p fun r => { r with landed := r.landed + 1, cursor := .idle }).cellFree p
        ((s.pair p).cellOf (s.pair p).landed) := by
  have record : (s.bumpPair p c).pair p = (s.pair p).bump c 1 := s.pair_modPair_self p _
  unfold State.endLanding
  rw [record]
  rfl

/-- A landing in HEADER or PAYLOAD, with the number of its words seen. -/
def Cursor.seen (x : Cursor) (n : Nat) : Prop := (n = 1 ∧ ∃ first, x = .header first) ∨ ∃ hdr m k, x = .payload n hdr m k

/-- A landing in progress is torn by a write that disagrees with it, and goes on otherwise (R36). -/
theorem State.endInProgress_seen (s : State) (p : Pair) (cls : RingClass) (c o n : Nat) (landing : (s.pair p).cursor.seen n) :
    s.endInProgress p cls c o =
      if (s.pair p).tears cls c o (4 * n) then (s.bumpPair p .torn).endLanding p else s := by
  unfold State.endInProgress
  simp only []
  rcases landing with ⟨rfl, first, cursor⟩ | ⟨hdr, m, k, cursor⟩
  · rw [cursor]
  · rw [cursor]

theorem PairRec.tears_other (r : PairRec) (cls : RingClass) (c o n : Nat) (other : cls ≠ .owner) (here : c = r.cellOf r.landed) :
    r.tears cls c o n = true := by
  simp [PairRec.tears, here, other]

theorem PairRec.tears_owner (r : PairRec) (c o n : Nat)
    (disagrees : (c = r.cellOf r.landed ∧ o ≠ n) ∨ (c = r.cellOf (r.landed + 1) ∧ o = 0)) : r.tears .owner c o n = true := by
  rcases disagrees with ⟨here, elsewhere⟩ | ⟨next, start⟩
  · simp [PairRec.tears, here, elsewhere]
  · simp [PairRec.tears, PairRec.startsNext, next, start]

theorem PairRec.tears_continues (r : PairRec) (c n : Nat) (later : n ≠ 0) : r.tears .owner c n n = false := by
  simp [PairRec.tears, PairRec.startsNext, later]

theorem State.endInProgress_idle (s : State) (p : Pair) (cls : RingClass) (c o : Nat) (idle : (s.pair p).cursor = .idle) :
    s.endInProgress p cls c o = s := by
  unfold State.endInProgress
  simp only []
  rw [idle]

theorem State.endInProgress_absorbing (s : State) (p : Pair) (cls : RingClass) (c o : Nat) (cause : ErrorCause)
    (absorbing : (s.pair p).cursor = .absorbing cause) :
    s.endInProgress p cls c o = if cls == .owner && (s.pair p).startsNext c o then s.endLanding p else s := by
  unfold State.endInProgress
  simp only []
  rw [absorbing]

/-- What an OWNER write does after the release count's advance, by the cursor: the advance leaves cursor, cells and L (R33, R34, R37,
R38). -/
theorem State.takeOwner_idle (s : State) (p : Pair) (c o : Nat) (ws : List Word) (idle : (s.pair p).cursor = .idle) :
    (s.releaseAdvance p).takeOwner p c o ws =
      if c == (s.pair p).cellOf (s.pair p).landed && o == 0 && (s.pair p).cells[c]? == some .free then
        (s.releaseAdvance p).startLanding p ws
      else (s.releaseAdvance p).bumpPair p .ringSkip := by
  unfold State.takeOwner PairRec.cellOf
  simp only [State.releaseAdvance_cursor, State.releaseAdvance_cells, State.releaseAdvance_landed]
  rw [idle]

theorem State.takeOwner_absorbing (s : State) (p : Pair) (c o : Nat) (ws : List Word) (cause : ErrorCause)
    (absorbing : (s.pair p).cursor = .absorbing cause) (here : c = (s.pair p).cellOf (s.pair p).landed) :
    (s.releaseAdvance p).takeOwner p c o ws = s.releaseAdvance p := by
  unfold PairRec.cellOf at here
  unfold State.takeOwner PairRec.cellOf
  simp only [State.releaseAdvance_cursor, State.releaseAdvance_cells, State.releaseAdvance_landed]
  rw [absorbing]
  exact if_pos (by simpa using here)

theorem State.takeOwner_continues (s : State) (p : Pair) (c n : Nat) (ws : List Word) (landing : (s.pair p).cursor.seen n)
    (here : c = (s.pair p).cellOf (s.pair p).landed) :
    (s.releaseAdvance p).takeOwner p c (4 * n) ws = (s.releaseAdvance p).landWords p ws := by
  unfold PairRec.cellOf at here
  unfold State.takeOwner PairRec.cellOf
  simp only [State.releaseAdvance_cursor, State.releaseAdvance_cells, State.releaseAdvance_landed]
  rcases landing with ⟨rfl, first, cursor⟩ | ⟨hdr, m, k, cursor⟩
  · rw [cursor]
    exact if_pos (by simpa using here)
  · rw [cursor]
    exact if_pos (by simpa using here)

/-! ## The words of a landing (R24, R34, R35, R37, R43) -/

/-- A damaged header short of an error burst: the landing absorbs, and the error is counted twice, once for the pair and once as recent. -/
theorem State.landWord_damaged (s : State) (p : Pair) (first w : Word) (cursor : (s.pair p).cursor = .header first)
    (damaged : classifyHeader first w ≠ .none) (short : min 255 ((s.pair p).recentErrors + 1) < s.prof.active.errorBurstLimit) :
    s.landWord p w = s.modPair p fun r =>
      { (({ r with cursor := .absorbing (classifyHeader first w), lastError := classifyHeader first w }).bump .headerError 1) with
        recentErrors := min 255 (r.recentErrors + 1) } := by
  have error : s.landWord p w = s.headerError p (classifyHeader first w) := by
    unfold State.landWord
    rw [cursor]
    simp only []
  rw [error]
  unfold State.headerError State.headerErrorNotice State.bumpPair
  simp only [State.modPair_modPair]
  refine if_neg ?_
  rw [State.pair_modPair_self]
  exact Nat.not_le.2 short

theorem State.landWord_header (s : State) (p : Pair) (first w : Word) (cursor : (s.pair p).cursor = .header first)
    (valid : classifyHeader first w = .none) :
    s.landWord p w = s.modPair p fun x => { x with cursor := .payload 2 (parseHeader first w) true [] } := by
  unfold State.landWord
  rw [cursor]
  simp only []
  rw [valid]
  rfl

/-- A payload word that is not the target's goes into the comparison and the capture; the target's completes the landing. -/
theorem State.landWord_payload (s : State) (p : Pair) (w : Word) (n : Nat) (hdr : Header) (m : Bool) (k : List Word)
    (cursor : (s.pair p).cursor = .payload n hdr m k) :
    let matching := payloadMatch hdr m (n - 2) w
    let captured := if hdr.kind = kindStatus ∧ hdr.length = 16 ∧ n - 2 < 4 then k ++ [w] else k
    s.landWord p w = if n + 1 = fragmentWords hdr.length.toNat then s.completeLanding p hdr matching captured
      else s.setCursor p (.payload (n + 1) hdr matching captured) := by
  have capture : (if capturesWord hdr (n - 2) = true then k ++ [w] else k) =
      if hdr.kind = kindStatus ∧ hdr.length = 16 ∧ n - 2 < 4 then k ++ [w] else k := by
    simp only [capturesWord, Bool.and_eq_true, beq_iff_eq, decide_eq_true_iff, and_assoc]
  unfold State.landWord
  rw [cursor]
  simp only [capture]

/-! ## The lane check and the routing (R40 to R42) -/

theorem State.laneCheck_entry (s : State) (p : Pair) (x : Completed) (e : LaneEntry) (entry : (s.pair p).lane = some e) :
    s.laneCheck p x = if e.lane = x.hdr.lane then s.route p x else s.dropLane p x .wrongLane := by
  unfold State.laneCheck
  rw [entry]

theorem State.laneCheck_empty (s : State) (p : Pair) (x : Completed) (empty : (s.pair p).lane = none) :
    s.laneCheck p x =
      if (s.pair p).state = .down then
        if (s.laneHolder x.hdr.lane).isSome then (s.dropLane p x .laneConflict).conflictNotice p
        else (s.modPair p fun r => { r with lane := some { lane := x.hdr.lane, source := .learned } }).route p x
      else s.dropLane p x .noLane := by
  unfold State.laneCheck
  rw [empty]

/-- A conflict notice after a drop finds the pair DOWN where it was DOWN (R181). -/
theorem State.conflictNotice_dropLane (s : State) (p : Pair) (x : Completed) (c : PCounter) (down : (s.pair p).state = .down) :
    (s.dropLane p x c).conflictNotice p =
      ((s.dropLane p x c).modPair p fun r => { r with reason := .laneConflict }).raise .laneConflict := by
  have still : ((s.dropLane p x c).pair p).state = .down := by
    rw [← down]
    apply State.state_of_calm
    simp [State.dropLane]
  unfold State.conflictNotice
  exact if_pos still

/-! ## Admission (R50 to R56) -/

/-- A fragment within the window is judged by its position. -/
theorem State.placeData_within (s : State) (a : DataRecord) (h : distance a.sequence s.reseq.head < 512) :
    s.placeData a = match s.reseq.window[distance a.sequence s.reseq.head] with
      | .empty => s.enterWindow a (distance a.sequence s.reseq.head)
      | .landed _ => s.dropData a .duplicate
      | .lost => s.dropData a .late := by
  unfold State.placeData
  simp only [if_pos h, s.positions_getD _ h] <;> rfl

theorem State.placeData_beyond (s : State) (a : DataRecord) (h : 512 ≤ distance a.sequence s.reseq.head) :
    s.placeData a = if distance a.sequence s.reseq.head < 32768 then
      if s.reseq.blocked then s.dropData a .windowFull else s.forcedAdvance a (distance a.sequence s.reseq.head)
    else s.dropData a .stale := by
  unfold State.placeData
  simp only [if_neg (Nat.not_lt.2 h)]

/-- The admission's position is LANDED and the others are as they were (R53). -/
theorem State.landAt_window (s : State) (a : DataRecord) (n i : Nat) (hi : i < 512) :
    (s.landAt a n).reseq.window[i] =
      if i = n then
        .landed { pair := a.pair, cell := a.cell, use := a.use, length := a.length, s := a.s, e := a.e, time := a.time }
      else s.reseq.window[i] := by
  have length := s.positions_length
  have window : (s.landAt a n).reseq.window = windowOf (s.positions.set n (.landed
      { pair := a.pair, cell := a.cell, use := a.use, length := a.length, s := a.s, e := a.e, time := a.time })) := rfl
  simp only [window]
  rw [windowOf_getElem _ _ hi, List.getElem?_set]
  by_cases e : n = i
  · subst e
    simp [length, hi]
  · rw [if_neg e, if_neg (Ne.symm e), List.getElem?_eq_getElem (by omega)]
    simp [State.positions]

/-- The admitting pair's record (R53, R56). -/
def PairRec.admitted (r : PairRec) (a : DataRecord) (horizon : Option Half) (slip : Bool) : PairRec :=
  let t := ({ (r.setCell a.cell (.held a.use .window)) with horizon := horizon } : PairRec).bump .admitted 1
  if slip then t.bump .orderSlip 1 else t

theorem State.landAt_pair (s : State) (a : DataRecord) (n : Nat) :
    (s.landAt a n).pair a.pair =
      (s.pair a.pair).admitted a (s.horizonAfter a.pair a.sequence) (s.slips a.pair a.sequence) :=
  State.pair_modPair_self _ _ _

theorem PairRec.admitted_fields (r : PairRec) (a : DataRecord) (horizon : Option Half) (slip : Bool) :
    (r.admitted a horizon slip).cells = r.cells.set a.cell (.held a.use .window) ∧ (r.admitted a horizon slip).horizon = horizon := by
  unfold PairRec.admitted
  cases slip <;> exact ⟨rfl, rfl⟩

theorem PairRec.admitted_counts (r : PairRec) (a : DataRecord) (horizon : Option Half) (slip : Bool) :
    (r.admitted a horizon slip).count .admitted = satAdd32 (r.count .admitted) 1 ∧
      (r.admitted a horizon slip).count .orderSlip = if slip then satAdd32 (r.count .orderSlip) 1 else r.count .orderSlip := by
  have once : ∀ x : PairRec, (x.bump .admitted 1).count .orderSlip = x.count .orderSlip := fun x =>
    x.count_bump_ne .admitted .orderSlip 1 (by decide)
  unfold PairRec.admitted
  cases slip with
  | false => exact ⟨PairRec.count_bump_self _ _ _, once _⟩
  | true =>
    refine ⟨(PairRec.count_bump_ne _ .orderSlip .admitted 1 (by decide)).trans (PairRec.count_bump_self _ _ _), ?_⟩
    exact (PairRec.count_bump_self _ _ _).trans (congrArg (satAdd32 · 1) (once _))

end Sys2Proof.Machine

namespace Sys2Proof.Proofs
open Sys2Proof.Machine

/-- Settles O30. -/
theorem freeNeedsTheUseNumber : Obligations.FreeNeedsTheUseNumber := by
  refine fun s p c use => ⟨fun h held => ⟨s.freeUse_held p c use h held, ?_⟩, s.freeUse_other p c use⟩
  rw [s.freeUse_held p c use h held, s.cellFree_cells p c]

/-- Settles O31, clause by clause in the order of the statement. -/
theorem damagedAndUnwantedWritesLandNothing : Obligations.DamagedAndUnwantedWritesLandNothing := by
  refine ⟨?outWrite, State.landWord_damaged, ?reached, ?voids, ?tears, ?words, ?lanes, ?admission, ?landed⟩
  case outWrite =>
    intro s d t u p c o words data awaited handed out notHeld
    rw [exec_memoryAnswer_one s d t u _ data awaited handed]
    refine congrArg _ ?_
    rw [State.handOn, (s.writeAnswered d u).ringArrival_out p .owner c o words out, if_pos rfl,
      (s.writeAnswered d u).voidCell_not_held p c notHeld]
  case reached => exact fun s d t u p cls c o words data => exec_memoryAnswer_one s d t u _ data
  case voids =>
    intro s p cls c o words use h held vacated voided
    have void : s.voidCell p c = voided := s.voidCell_held p c use h held
    obtain ⟨cells, counters⟩ := (s.bumpPair p .voided).vacate_pair p c
    have record : (s.bumpPair p .voided).pair p = (s.pair p).bump .voided 1 := s.pair_modPair_self p _
    refine ⟨fun window => by rw [window]; rfl, fun delivery => by rw [delivery]; rfl, ?_, ?_, fun out => ?_, fun notOut => ?_⟩
    · rw [cells, record]
      rfl
    · unfold PairRec.count
      rw [counters, record]
      exact PairRec.count_bump_self _ .voided 1
    · rw [s.ringArrival_out p cls c o words out, void]
    · rw [s.ringArrival_in p cls c o words notOut, void]
  case tears =>
    intro s p cls c o words r notOut notHeld advanced ends
    have arrival : s.ringArrival p cls c o words =
        if cls = .owner then ((s.endInProgress p cls c o).releaseAdvance p).takeOwner p c o words
        else (s.endInProgress p cls c o).releaseAdvance p := by
      rw [s.ringArrival_in p cls c o words notOut, s.voidCell_not_held p c notHeld]
    have torn : ((s.bumpPair p .torn).endLanding p).releaseAdvance p = ends (s.bumpPair p .torn) := by
      rw [s.endLanding_bumpPair p .torn]
    rw [arrival]
    refine ⟨fun n landing => ⟨fun other here => ?_, fun owner disagrees => ?_⟩, fun cause absorbing => ⟨fun owner next start => ?_,
      fun here elsewhere => ?_⟩, fun owner idle notStart => ?_, fun w ws owner idle here start free words => ?_,
      fun first owner header here second => ?_, fun n hdr m k owner payload some_ here at_ => ?_⟩
    · rw [if_neg other, s.endInProgress_seen p cls c o n landing, if_pos (r.tears_other cls c o _ other here)]
      exact torn
    · subst owner
      rw [if_pos rfl, s.endInProgress_seen p .owner c o n landing, if_pos (r.tears_owner c o _ disagrees), ← torn]
    · subst owner
      rw [if_pos rfl, s.endInProgress_absorbing p .owner c o cause absorbing, if_pos (by simp [PairRec.startsNext, r, next, start])]
      rfl
    · have goesOn : (cls == .owner && (s.pair p).startsNext c o) = false := by
        unfold PairRec.startsNext
        cases elsewhere with
        | inl notNext =>
          have apart : (c == (s.pair p).cellOf ((s.pair p).landed + 1)) = false := beq_eq_false_iff_ne.2 notNext
          simp only [apart, Bool.false_and, Bool.and_false]
        | inr notStart => simp [notStart]
      rw [s.endInProgress_absorbing p cls c o cause absorbing, goesOn]
      simp only [Bool.false_eq_true, if_false]
      rw [s.takeOwner_absorbing p c o words cause absorbing here]
      exact ite_self _
    · subst owner
      rw [if_pos rfl, s.endInProgress_idle p .owner c o idle, s.takeOwner_idle p c o words idle, if_neg]
      intro starts
      simp only [Bool.and_eq_true, beq_iff_eq, and_assoc] at starts
      exact notStart starts
    · subst owner words
      rw [if_pos rfl, s.endInProgress_idle p .owner c o idle, s.takeOwner_idle p c o (w :: ws) idle, if_pos]
      · refine congrArg (fun u : State => u.landWords p ws) (State.modPair_congr _ _ _ _ ?_)
        have record : advanced.pair p = { s.pair p with released := (s.pair p).releasable } := by
          rw [State.pair_releaseAdvance, if_pos rfl]
        rw [record, here]
        rfl
      · simp only [Bool.and_eq_true, beq_iff_eq]
        exact ⟨⟨here, start⟩, free⟩
    · subst owner second
      have landing : (s.pair p).cursor.seen 1 := .inl ⟨rfl, first, header⟩
      rw [if_pos rfl, s.endInProgress_seen p .owner c 4 1 landing,
        if_neg ((PairRec.tears_continues _ c 4 (by omega)).symm ▸ Bool.false_ne_true)]
      exact s.takeOwner_continues p c 1 words landing here
    · subst owner at_
      have landing : (s.pair p).cursor.seen n := .inr ⟨hdr, m, k, payload⟩
      rw [if_pos rfl, s.endInProgress_seen p .owner c _ n landing,
        if_neg ((PairRec.tears_continues _ c (4 * n) (by omega)).symm ▸ Bool.false_ne_true)]
      exact s.takeOwner_continues p c n words landing here
  case words =>
    refine fun s p w ws => ⟨rfl, rfl, s.landWords_idle p ws, fun first => s.landWord_header p first w, fun n hdr m k cursor => ?_⟩
    exact ⟨fun more => (s.landWord_payload p w n hdr m k cursor).trans (if_neg more),
      fun last => (s.landWord_payload p w n hdr m k cursor).trans (if_pos last)⟩
  case lanes =>
    refine fun s p x => ⟨fun e entry right => ?_, fun e entry wrong => ?_, fun empty down free => ?_, fun empty down taken => ?_,
      fun empty notDown => ?_, fun data => if_pos data, fun status => ?_, fun prove => ?_⟩
    · rw [s.laneCheck_entry p x e entry, if_pos right]
    · rw [s.laneCheck_entry p x e entry, if_neg wrong]
      rfl
    · rw [s.laneCheck_empty p x empty, if_pos down, s.laneHolder_none _ free]
      rfl
    · rw [s.laneCheck_empty p x empty, if_pos down, if_pos (s.laneHolder_some _ taken), s.conflictNotice_dropLane p x _ down]
      rfl
    · rw [s.laneCheck_empty p x empty, if_neg notDown]
      rfl
    · unfold State.route
      rw [status, if_neg (by decide), if_pos rfl]
    · unfold State.route
      rw [prove, if_neg (by decide), if_neg (by decide)]
  case admission =>
    intro s a n dropped
    refine ⟨fun off => if_pos off, fun active synced new => ?_, fun active synced old other => ?_, fun active synced old same => ?_,
      fun active unsynced => ?_, fun near empty => ?_, fun near r landed => ?_, fun near lost => ?_, fun far close blocked => ?_,
      fun far close free => ?_, fun stale => ?_⟩
    · simp [State.admitData, active, synced, new]
    · simp [State.admitData, active, synced, old, other]
      rfl
    · unfold State.admitData
      rw [if_neg (by simp [active]), if_pos synced, if_neg (by simp [old]), if_pos same]
    · simp [State.admitData, active, unsynced]
    · rw [s.placeData_within a near, empty]
    · rw [s.placeData_within a near, landed]
      rfl
    · rw [s.placeData_within a near, lost]
      rfl
    · rw [s.placeData_beyond a far, if_pos close, if_pos blocked]
      rfl
    · rw [s.placeData_beyond a far, if_pos close, if_neg (by simp [free])]
    · rw [s.placeData_beyond a (by omega), if_neg (Nat.not_lt.2 stale)]
      rfl
  case landed =>
    intro s a n near t place
    obtain ⟨cells, horizon⟩ := (s.pair a.pair).admitted_fields a (s.horizonAfter a.pair a.sequence) (s.slips a.pair a.sequence)
    obtain ⟨admitted, slips⟩ := (s.pair a.pair).admitted_counts a (s.horizonAfter a.pair a.sequence) (s.slips a.pair a.sequence)
    rw [← s.landAt_pair a n] at cells horizon admitted slips
    refine ⟨fun i hi => s.landAt_window a n i hi, rfl, fun q other => State.pair_modPair_ne _ _ _ _ other, cells, admitted,
      fun none_ => ?_, fun h some_ => ⟨fun ahead => ?_, fun behind => ?_, ?_⟩, fun still => ?_, fun moved => ?_⟩
    · rw [State.horizonAfter, none_] at horizon
      rw [State.slips, none_] at slips
      exact ⟨horizon, slips⟩
    · rw [State.horizonAfter, some_] at horizon
      exact horizon.trans (if_pos ahead)
    · rw [State.horizonAfter, some_] at horizon
      exact horizon.trans (if_neg (Nat.not_lt.2 behind))
    · rw [State.slips, some_] at slips
      exact slips.trans (by simp only [decide_eq_true_iff]; rfl)
    · exact congrArg State.settle (if_pos still)
    · exact congrArg State.settle (if_neg moved)

end Sys2Proof.Proofs
end

section
/-! What head processing leaves aside, and the two steps that end in it: the room notice and the skew timer's expiry (R59 to R65, R74 to
R77). -/

-- Theorem by theorem: the check's thread stacks leave no memory for many proofs at once behind the slow tests.
set_option Elab.async false

namespace Sys2Proof.Machine

/-! ## What head processing leaves aside -/

/-- The counters of head processing and closure. -/
def headCounters : List GCounter :=
  [.lostSequence, .orphan, .malformed, .loss, .oversize, .framesAssembled, .framesDelivered, .blocked, .closureLost]

/-- What head processing leaves: the Submission Unit, the Distributor and the counters of other causes. -/
structure Aside (s t : State) : Prop where
  subm   : t.subm = s.subm
  dist   : t.dist = s.dist
  counts : ∀ c, c ∉ headCounters → t.count c = s.count c

theorem Aside.refl (s : State) : Aside s s := ⟨rfl, rfl, fun _ _ => rfl⟩

theorem Aside.trans {s t u : State} (h : Aside s t) (g : Aside t u) : Aside s u :=
  ⟨g.subm.trans h.subm, g.dist.trans h.dist, fun c other => (g.counts c other).trans (h.counts c other)⟩

/-- The cells' holders change at the hand-off, and nothing beside the pairs (R32). -/
theorem State.passCell_frame (s : State) (p : Pair) (c : Nat) (u : Half) : ∃ v, s.passCell p c u = { s with pairs := v } := by
  unfold State.passCell
  (repeat' split)
  · exact ⟨_, rfl⟩
  · exact ⟨s.pairs, rfl⟩
  · exact ⟨s.pairs, rfl⟩

theorem State.passCells_frame (s : State) (l : List FragEntry) :
    ∃ v, l.foldl (fun t e => t.passCell e.pair e.cell e.use) s = { s with pairs := v } := by
  induction l generalizing s with
  | nil => exact ⟨s.pairs, rfl⟩
  | cons e es ih =>
    obtain ⟨v, first⟩ := s.passCell_frame e.pair e.cell e.use
    obtain ⟨w, rest⟩ := ih (s.passCell e.pair e.cell e.use)
    exact ⟨w, by rw [List.foldl_cons, rest, first]⟩

/-- Postings change the Memory Path alone. -/
theorem State.postRecord_frame (s : State) (f : FrameRec) : ∃ path, s.postRecord f = { s with path := path } := by
  unfold State.postRecord
  split
  · exact ⟨_, rfl⟩
  · exact ⟨s.path, rfl⟩

theorem State.postProducer_frame (s : State) : ∃ path, s.postProducer = { s with path := path } := by
  obtain ⟨l, e⟩ := State.postCount_eq s 4 s.deliv.producer
  exact ⟨_, e⟩

/-- A raised event changes the Memory Path, the pins and the Report Unit at most. -/
theorem State.raise_frame (s : State) (e : Event) :
    ∃ path pins rep, s.raise e = { s with path := path, pins := pins, rep := rep } := by
  obtain ⟨l, b, h⟩ := s.raise_eq e
  exact ⟨_, _, _, h⟩

/-- A taken frame joins the queue with its record and is counted; the path, the events and the cells' holders change beside it (R97). -/
theorem State.takeFrame_frame (s : State) (l : List FragEntry) :
    ∃ pairs path pins rep, s.takeFrame l =
      { s with
        pairs := pairs, path := path, pins := pins, rep := rep, counters := (s.bump .framesDelivered).counters
        deliv := { s.deliv with queue := s.deliv.queue ++ [s.frameOf l], producer := s.deliv.producer + 1 } } := by
  unfold State.takeFrame
  simp only []
  generalize joined : { s with deliv := { s.deliv with
    queue := s.deliv.queue ++ [s.frameOf l], producer := s.deliv.producer + 1 } } = j
  obtain ⟨p1, recorded⟩ := j.postRecord_frame (s.frameOf l)
  obtain ⟨p2, counted⟩ := (j.postRecord (s.frameOf l)).postProducer_frame
  obtain ⟨p3, pins, rep, raised⟩ := ((j.postRecord (s.frameOf l)).postProducer).raise_frame .frameReady
  obtain ⟨v, passed⟩ := State.passCells_frame ((((j.postRecord (s.frameOf l)).postProducer).raise .frameReady).bump
    .framesDelivered) l
  rw [passed, raised, counted, recorded, ← joined]
  exact ⟨v, p3, pins, rep, rfl⟩

namespace Aside

variable {s t : State} (h : Aside s t)
include h

/-- A step that leaves the Submission Unit, the Distributor and the counters. -/
theorem congr {u : State} (subm : u.subm = t.subm) (dist : u.dist = t.dist) (counters : u.counters = t.counters) : Aside s u :=
  h.trans ⟨subm, dist, fun c _ => State.count_congr counters c⟩

theorem freeUse {p : Pair} {c : Nat} {u : Half} : Aside s (t.freeUse p c u) := by
  obtain ⟨v, l, e⟩ := t.freeUse_frame p c u
  rw [e]
  exact h.congr rfl rfl rfl

/-- A counter of head processing goes up. -/
theorem bump {c : GCounter} {n : Nat} (own : c ∈ headCounters := by decide) : Aside s (t.bump c n) :=
  h.trans ⟨rfl, rfl, fun d other => State.count_bump_ne t c d n fun e => other (e ▸ own)⟩

theorem moveHead {n : Nat} : Aside s (t.moveHead n) := by
  obtain ⟨v, e⟩ := t.moveHead_frame n
  rw [e]
  exact h.congr rfl rfl rfl

theorem reseq {x : Reseq} : Aside s { t with reseq := x } := h.congr rfl rfl rfl

theorem raise {e : Event} : Aside s (t.raise e) := h.congr (t.raise_subm e) (t.raise_dist e) (t.raise_counters e)

theorem takeFrame {l : List FragEntry} : Aside s (t.takeFrame l) := by
  obtain ⟨pairs, path, pins, rep, e⟩ := t.takeFrame_frame l
  rw [e]
  exact h.trans (Aside.congr (t := t.bump .framesDelivered) ((refl t).bump) rfl rfl rfl)

theorem passLost {n : Nat} : Aside s (t.passLost n) := by
  refine moveHead ?_
  exact reseq (h.bump (c := .lostSequence) (n := n))

theorem passOrphan {r : Landed} : Aside s (t.passOrphan r) := h.freeUse.bump.moveHead

theorem discardHead {r : Landed} {c : GCounter} (own : c ∈ headCounters := by decide) : Aside s (t.discardHead r c) := by
  refine moveHead ?_
  exact reseq (h.freeUse.bump (c := c) (n := 1) own)

theorem handOff {n : Nat} : Aside s (t.handOff n) := by
  refine moveHead ?_
  exact reseq (h.takeFrame.bump (c := .framesAssembled) (n := 1))

theorem block : Aside s t.block := reseq (h.bump (c := .blocked) (n := 1))

end Aside

theorem Aside.headRun (n : Nat) {s t : State} (h : Aside s t) : Aside s (State.headRun n t) := by
  induction n generalizing t with
  | zero => exact h
  | succ n ih =>
    unfold State.headRun
    (repeat' split)
    · exact ih h.passLost
    · exact h
    · exact ih h.discardHead
    · exact ih h.discardHead
    · exact ih h.discardHead
    · exact ih h.handOff
    · exact h.block
    · exact ih h.passOrphan
    · exact h

namespace Aside

variable {s t : State} (h : Aside s t)
include h

theorem headProcess : Aside s t.headProcess := headRun 513 h.reseq

theorem settle : Aside s t.settle := h.headProcess.reseq

theorem close : Aside s t.close := by
  unfold State.close
  simp only []
  (repeat' split)
  · exact h
  · exact (reseq h).bump.raise
  · exact h

end Aside

/-! ## The hand-off of a one-fragment frame (R64, R65) -/

/-- Head processing hands off a one-fragment frame with room for it. -/
theorem State.headRun_single (s : State) (n : Nat) (r : Landed) (head : s.reseq.window[0] = .landed r) (first : r.s = true)
    (last : r.e = true) (room : s.deliv.hasRoom = true) : State.headRun (n + 1) s = State.headRun n (s.handOff 1) := by
  obtain ⟨rest, positions, -⟩ := s.positions_head (.landed r) head
  rw [State.headRun, positions]
  simp only [first, if_true, scanFrom, last, room]

/-- Head processing stops at an EMPTY head. -/
theorem State.headRun_empty (s : State) (n : Nat) (head : s.reseq.window[0] = .empty) : State.headRun n s = s := by
  cases n with
  | zero => rfl
  | succ n =>
    obtain ⟨rest, positions, -⟩ := s.positions_head .empty head
    rw [State.headRun, positions]

/-- What the hand-off of n positions leaves: the frame in the queue, the head moved on, the tallies at 0. -/
theorem State.handOff_frame (s : State) (n : Nat) :
    ∃ pairs path pins rep counters, s.handOff n =
      { s with
        pairs := pairs, path := path, pins := pins, rep := rep, counters := counters
        deliv := { s.deliv with
          queue := s.deliv.queue ++ [s.frameOf (fragmentsOf (s.positions.take n))], producer := s.deliv.producer + 1 }
        reseq := { s.reseq with
          head := s.reseq.head + halfOf n, window := windowOf (s.positions.drop n), lostTally := 0, discardedTally := 0 } } := by
  obtain ⟨pairs, path, pins, rep, taken⟩ := s.takeFrame_frame (fragmentsOf (s.positions.take n))
  unfold State.handOff
  simp only []
  obtain ⟨v, moved⟩ := State.moveHead_frame { (s.takeFrame (fragmentsOf (s.positions.take n))).bump .framesAssembled with
    reseq := { ((s.takeFrame (fragmentsOf (s.positions.take n))).bump .framesAssembled).reseq with
      lostTally := 0, discardedTally := 0 } } n
  rw [moved, taken]
  exact ⟨v, path, pins, rep, _, rfl⟩

end Sys2Proof.Machine

namespace Sys2Proof.Proofs
open Sys2Proof.Machine

/-- Settles O34: head processing hands off the frame at the head and stops at the EMPTY position behind it. -/
theorem roomNoticeHandsOffTheFrame : Obligations.RoomNoticeHandsOffTheFrame := by
  intro s r up noticed room head first last behind
  let u : State := { s with deliv := { s.deliv with roomNotices := s.deliv.roomNotices - 1 }, reseq := { s.reseq with blocked := false } }
  obtain ⟨pairs, path, pins, rep, counters, handed⟩ := u.handOff_frame 1
  have run : exec .roomNotice s = .next (u.handOff 1).aim := by
    have taken : s.takeRoom = (State.headRun 513 u).aim := rfl
    have stops : (u.handOff 1).reseq.window[0] = .empty := by
      rw [handed]
      exact (u.window_drop_one 0 (by omega)).trans behind
    rw [u.headRun_single 512 r head first last (by simpa [Delivery.hasRoom, u] using room), State.headRun_empty _ _ stops] at taken
    rw [← taken]
    have pending : (s.deliv.roomNotices != 0) = true := by simpa using noticed
    calc exec .roomNotice s = .next (s.whenever (s.deliv.roomNotices != 0) State.takeRoom) := congrArg _ (State.whenUp_high _ _ up)
      _ = .next s.takeRoom := by rw [pending, State.whenever_true]
  obtain ⟨rest, positions, -⟩ := s.positions_head (.landed r) head
  have fragments : fragmentsOf (u.positions.take 1) =
      [{ pair := r.pair, cell := r.cell, use := r.use, length := r.length, isVoid := false }] := by
    rw [show u.positions = s.positions from rfl, positions]
    rfl
  rw [handed, fragments] at run
  exact ⟨_, _, run, rfl, rfl, rfl, Nat.add_zero _, rfl, rfl, rfl, rfl, rfl, rfl, rfl, rfl, rfl, rfl⟩

/-- Settles O35. -/
theorem skewExpiryDeclares : Obligations.SkewExpiryDeclares := by
  intro s k up armed n
  have row : exec .skewTimerExpiry s = .next s.skewDue := congrArg _ (if_pos up)
  refine ⟨s.declare_window n, ⟨_, rfl⟩, fun reached => ?_, fun early => ?_⟩
  · have due : s.skewDue = s.skewExpire k := by
      unfold State.skewDue
      rw [armed]
      exact if_pos reached
    have run : exec .skewTimerExpiry s =
        .next ((((s.declare n).bump .skewExpiry).bump .skewLost (emptyBelow n s.positions)).raise .gapLoss).settle := by
      rw [row, due]
      rfl
    refine ⟨run, _, run, ?_⟩
    generalize expired : ((s.declare n).bump .skewExpiry).bump .skewLost (emptyBelow n s.positions) = u
    have settled : Aside (u.raise .gapLoss) (u.raise .gapLoss).settle := (Aside.refl _).settle
    have kept : Keeps (u.raise .gapLoss) (u.raise .gapLoss).settle := (Keeps.refl _).settle
    have counters : (u.raise .gapLoss).counters = u.counters := u.raise_counters .gapLoss
    refine ⟨?_, ?_, ?_, ?_, ?_, ?_, ?_, rfl⟩
    · rw [settled.counts _ (by decide), State.count_congr counters, ← expired, State.count_bump_ne _ _ _ _ (by decide),
        State.count_bump_self]
      rfl
    · rw [settled.counts _ (by decide), State.count_congr counters, ← expired, State.count_bump_self,
        State.count_bump_ne _ _ _ _ (by decide)]
      rfl
    · refine kept.told.events _ ?_
      rw [State.raise_events, BitVec.getLsbD_or, Event.mask_bit, Bool.or_true]
    · rw [settled.subm, State.raise_subm, ← expired]
      rfl
    · rw [settled.dist, State.raise_dist, ← expired]
      rfl
    · rw [kept.prof, State.raise_prof, ← expired]
      rfl
    · rw [kept.told.clock, State.raise_clock, ← expired]
      rfl
  · rw [row]
    unfold State.skewDue
    rw [armed]
    exact congrArg _ (if_neg (by simp [State.now, early]))

end Sys2Proof.Proofs
end

section
/-! The Timebase, the events, the Pointer Writer's answers and the Report Unit's publications (R16, R205 to R214). -/

-- Theorem by theorem: the check's thread stacks leave no memory for many proofs at once behind the slow tests.
set_option Elab.async false

namespace Sys2Proof.Machine

/-! ## Answers to an awaited transaction (R2, R20) -/

theorem State.awaits_issuer {s : State} {d : Label} {t : DownTx} {i : Issuer} (awaited : s.awaits d t i) : t.issuer = i := by
  obtain ⟨-, -, -, issuer⟩ := awaited
  exact issuer

/-- An OK answer that fits goes to the transaction's issuer, its label released. -/
theorem exec_answerOk (s : State) (accepts : Issuer → Bool) (d : Label) (t : DownTx) (i : Issuer) (data : List Word)
    (awaited : s.awaits d t i) (accepted : accepts i = true) (fits : t.fits data = true) :
    s.answer accepts d (.ok data) = .next ((s.setDown d none).succeed t data) :=
  (s.answer_awaited accepts d t i _ awaited accepted).trans (if_pos fits)

/-- What an ERROR answer has done before the failure is passed on: the label released, MEMORY_ERROR counted, PATH_FAULT raised. -/
def State.errored (s : State) (d : Label) : State := ((s.setDown d none).bump .memoryError).raise .pathFault

/-- An ERROR answer is passed on to the issuer, which is not the Event Word's write. -/
theorem exec_answerError (s : State) (accepts : Issuer → Bool) (d : Label) (t : DownTx) (i : Issuer) (awaited : s.awaits d t i)
    (accepted : accepts i = true) (other : i ≠ .eventWord) :
    s.answer accepts d .error = .next ((s.errored d).failTo t) := by
  have issuer : t.issuer = i := State.awaits_issuer awaited
  rw [exec_memoryError s accepts d t i awaited accepted, State.pathFault_of_ne_eventWord _ _ (issuer ▸ other)]
  rfl

@[simp] theorem State.errored_subm (s : State) (d : Label) : (s.errored d).subm = s.subm := by simp [State.errored]
@[simp] theorem State.errored_dist (s : State) (d : Label) : (s.errored d).dist = s.dist := by simp [State.errored]
@[simp] theorem State.errored_pairs (s : State) (d : Label) : (s.errored d).pairs = s.pairs := by simp [State.errored]

/-! ## What a raised event leaves in the Memory Path and the Report Unit (R209) -/

theorem State.raise_up (s : State) (e : Event) : (s.raise e).path.up = s.path.up := by
  obtain ⟨l, b, h⟩ := s.raise_eq e
  rw [h]
  rfl

theorem State.raise_pubWrite (s : State) (e : Event) : (s.raise e).rep.pubWrite = s.rep.pubWrite := by
  obtain ⟨l, b, h⟩ := s.raise_eq e
  rw [h]
  rfl

/-- With the Report Block not placed, an event makes no posting. -/
theorem State.raise_path_unplaced (s : State) (e : Event) (unplaced : s.prof.active.reportBase = none) :
    (s.raise e).path = s.path := by
  have silent : s.raise e = s.setEvent e := if_neg (by
    rw [show (s.setEvent e).prof = s.prof from rfl, unplaced]
    exact Bool.false_ne_true)
  rw [silent]
  rfl

/-- ATTN_N after a raised event (R208). -/
theorem State.raise_attn (s : State) (e : Event) :
    (s.raise e).pins.attn = true ↔ (s.rep.events ||| e.mask) &&& s.prof.active.eventEnables ≠ 0 := by
  have attn : (s.raise e).pins.attn = (s.setEvent e).attention := congrArg Pins.attn (s.setEvent e).postEventWord_pins
  rw [attn]
  exact decide_eq_true_iff

/-! ## Postings (R16) -/

/-- Whether a target has an entry in the list. -/
theorem hasTarget_iff (l : List PointerEntry) (t : Target) : l.any (fun e => e.target == t) = true ↔ ∃ e ∈ l, e.target = t := by
  simp

/-- The list without a target's entries is the list, where it has none. -/
theorem filter_of_no_target (l : List PointerEntry) (t : Target) (none_ : ∀ e ∈ l, e.target ≠ t) :
    l.filter (fun e => e.target ≠ t) = l :=
  List.filter_eq_self.2 fun e he => decide_eq_true (none_ e he)

theorem postTo_new (l : List PointerEntry) (t : Target) (v : List Word) (none_ : ∀ e ∈ l, e.target ≠ t) :
    postTo l t v = l ++ [{ target := t, value := v }] := by
  have no : ¬ (l.any (fun e => e.target == t) = true ∧ t.keepsPlace = true) := fun h =>
    let ⟨e, he, is⟩ := (hasTarget_iff l t).1 h.1
    none_ e he is
  rw [postTo, if_neg no, filter_of_no_target l t none_]

theorem postTo_keeps (l : List PointerEntry) (t : Target) (v : List Word) (some_ : ∃ e ∈ l, e.target = t)
    (keeps : t.keepsPlace = true) :
    postTo l t v = l.map fun e => if e.target = t then { e with value := v } else e :=
  if_pos ⟨(hasTarget_iff l t).2 some_, keeps⟩

theorem postTo_joins (l : List PointerEntry) (t : Target) (v : List Word) (joins : t.keepsPlace = false) :
    postTo l t v = l.filter (fun e => e.target ≠ t) ++ [{ target := t, value := v }] :=
  if_neg fun h => Bool.false_ne_true (joins.symm.trans h.2)

/-! ## Publications (R211 to R214) -/

/-- The held reads are those of the open transactions. -/
theorem State.heldReads_congr {s t : State} (up : t.path.up = s.path.up) : t.heldReads = s.heldReads := by
  unfold State.heldReads
  rw [up]

/-- A publication's end up to its release: the Event Word posted with the new count, PUBLICATIONS counted. -/
def State.published (s : State) : State :=
  ((s.modRep fun r => { r with pubWrite := none, ended := true, endedCount := r.pubCount }).postEventWord).bump .publications

theorem State.published_up (s : State) : s.published.path.up = s.path.up := by
  obtain ⟨l, b, h⟩ := (s.modRep fun r => { r with pubWrite := none, ended := true, endedCount := r.pubCount }).postEventWord_eq
  unfold State.published
  rw [h]
  rfl

/-- With reads held, the end waits for their release; with none, the state moves on at once. -/
theorem State.endPublication_held (s : State) (held : s.heldReads ≠ 0) : s.endPublication = s.published :=
  if_neg fun none_ => held ((State.heldReads_congr s.published_up).symm.trans none_)

theorem State.endPublication_unheld (s : State) (held : s.heldReads = 0) : s.endPublication = s.published.afterPublication :=
  if_pos ((State.heldReads_congr s.published_up).trans held)

/-- The state a publication write's end is counted in: PUBLISH_FAULT goes up where it failed (R214). -/
def State.writeEnded (s : State) (ok : Bool) : State := if ok then s else s.bump .publishFault

theorem State.publicationAnswered_next (s : State) (ok : Bool) (w : PubWrite) (open_ : s.rep.pubWrite = some w)
    (more : w.index < 63) : s.publicationAnswered ok = (s.writeEnded ok).postPublication (w.index + 1) := by
  unfold State.publicationAnswered
  rw [open_]
  exact if_pos (by omega)

theorem State.publicationAnswered_last (s : State) (ok : Bool) (w : PubWrite) (open_ : s.rep.pubWrite = some w)
    (last : w.index = 63) : s.publicationAnswered ok = (s.writeEnded ok).endPublication := by
  unfold State.publicationAnswered
  rw [open_]
  exact if_neg (by omega)

theorem State.succeed_publisher (s : State) (t : DownTx) (data : List Word) (issuer : t.issuer = .publisher) :
    s.succeed t data = s.publicationAnswered true := by
  unfold State.succeed
  rw [issuer]

theorem State.failTo_publisher (s : State) (t : DownTx) (issuer : t.issuer = .publisher) :
    s.failTo t = s.publicationAnswered false := by
  unfold State.failTo
  rw [issuer]

/-- The answers of a publication write (R213, R214). -/
theorem exec_publicationWriteAnswer (s : State) (d : Label) (t : DownTx) (data : List Word) (awaited : s.awaits d t .publisher)
    (write : t.kind = .write) :
    exec (.publicationWriteAnswer d (.ok data)) s = .next ((s.setDown d none).publicationAnswered true) ∧
      exec (.publicationWriteAnswer d .error) s = .next ((s.errored d).publicationAnswered false) := by
  have issuer : t.issuer = .publisher := State.awaits_issuer awaited
  refine ⟨?_, ?_⟩
  · calc exec (.publicationWriteAnswer d (.ok data)) s
        = .next ((s.setDown d none).succeed t data) :=
          exec_answerOk s Issuer.isPublisher d t _ data awaited rfl (t.fits_write data write)
      _ = _ := by rw [State.succeed_publisher _ t data issuer]
  · calc exec (.publicationWriteAnswer d .error) s
        = .next ((s.errored d).failTo t) := exec_answerError s Issuer.isPublisher d t _ awaited rfl (by decide)
      _ = _ := by rw [State.failTo_publisher _ t issuer]

/-- The state with the report timer started again (R211). -/
def State.rearmed (s : State) : State := s.modRep fun r => { r with timer := some (s.now + s.prof.active.reportInterval) }

/-- The report timer's expiry once due (R211). -/
theorem exec_reportTimerExpiry (s : State) (at_ : Time) (up : s.pins.resetN = true) (armed : s.rep.timer = some at_)
    (reached_ : reached s.clock.time at_ = true) :
    exec .reportTimerExpiry s = .next s.rearmed.publicationCause := by
  have due : s.due s.rep.timer = true := by
    rw [armed]
    exact reached_
  calc exec .reportTimerExpiry s = .next s.reportTimerDue := congrArg _ (if_pos up)
    _ = _ := congrArg _ (if_pos due)

theorem State.publicationCause_idle (s : State) (idle : s.rep.pubState = .idle) : s.publicationCause = s.becomeDue := by
  unfold State.publicationCause
  rw [idle]

theorem State.publicationCause_due (s : State) (due : s.rep.pubState = .due) : s.publicationCause = s.bump .reportMerged := by
  unfold State.publicationCause
  rw [due]

theorem State.publicationCause_publishing (s : State) (publishing : s.rep.pubState = .publishing) :
    s.publicationCause = if s.rep.followOn then s.bump .reportMerged else s.modRep fun r => { r with followOn := true } := by
  unfold State.publicationCause
  rw [publishing]

end Sys2Proof.Machine

namespace Sys2Proof.Proofs
open Sys2Proof.Machine

/-- Settles O52. -/
theorem raiseSetsTheFlag : Obligations.RaiseSetsTheFlag := fun s e =>
  ⟨s.raise_events e, s.raise_fresh e, s.raise_afterIssue e, e.mask_bit, s.raise_attn e, s.raise_counters e, s.raise_pairs e,
    s.raise_prof e, s.raise_path_unplaced e⟩

/-- Settles O51: each row is its own condition and then its own update. -/
theorem timebaseSteps : Obligations.TimebaseSteps := by
  intro s up
  have epoch (now : reached s.clock.time s.clock.nextEpoch = true) : exec .epochBoundary s = .next s.epoch :=
    congrArg _ ((s.whenUp_high _ up).trans (if_pos now))
  refine ⟨fun now free => ?_, fun n now waits => ?_, fun early => ?_, fun internal => ?_, fun reference => ?_, ?_⟩
  · rw [epoch now]
    unfold State.epoch
    simp [free]
  · rw [epoch now]
    unfold State.epoch
    simp [waits]
  · exact congrArg _ ((s.whenUp_high _ up).trans (if_neg (by simp [State.now, early])))
  · exact congrArg _ ((s.whenUp_high _ up).trans (if_pos (by simp [internal])))
  · exact congrArg _ ((s.whenUp_high _ up).trans (if_pos (by simp [reference])))
  · exact congrArg _ (s.whenUp_high _ up)

/-- Settles O53. -/
theorem pointerAndEventWordAnswers : Obligations.PointerAndEventWordAnswers := by
  intro s d t data write
  have fits := t.fits_write data write
  refine ⟨fun awaited => ?_, fun awaited unmarked => ?_, fun awaited marked => ?_,
    fun x v => ⟨fun none_ => ?_, fun some_ => ⟨?_, ?_⟩⟩⟩
  · have issuer : t.issuer = .pointer := State.awaits_issuer awaited
    refine ⟨?_, ?_⟩
    · calc exec (.pointerWriteAnswer d (.ok data)) s
          = .next ((s.setDown d none).succeed t data) := exec_answerOk s Issuer.isPlainPointer d t _ data awaited rfl fits
        _ = _ := by unfold State.succeed; rw [issuer]
    · calc exec (.pointerWriteAnswer d .error) s
          = .next ((s.errored d).failTo t) := exec_answerError s Issuer.isPlainPointer d t _ awaited rfl (by decide)
        _ = _ := by unfold State.failTo; rw [issuer]; rfl
  · have issuer : t.issuer = .eventWord := State.awaits_issuer awaited
    calc exec (.eventWordWriteAnswer d (.ok data)) s
        = .next ((s.setDown d none).succeed t data) := exec_answerOk s Issuer.isEventWord d t _ data awaited rfl fits
      _ = .next (s.setDown d none).eventWordOk := by unfold State.succeed; rw [issuer]
      _ = _ := congrArg _ (if_neg (by simp [State.modRep, State.setDown, unmarked]))
  · have issuer : t.issuer = .eventWord := State.awaits_issuer awaited
    calc exec (.eventWordWriteAnswer d (.ok data)) s
        = .next ((s.setDown d none).succeed t data) := exec_answerOk s Issuer.isEventWord d t _ data awaited rfl fits
      _ = .next (s.setDown d none).eventWordOk := by unfold State.succeed; rw [issuer]
      _ = _ := congrArg _ (if_pos (by simp [State.modRep, State.setDown, marked]))
  · exact congrArg s.setPointer (postTo_new s.path.pointer x v none_)
  · rintro (⟨slot, rfl⟩ | ⟨addr, rfl⟩)
    · exact congrArg s.setPointer (postTo_keeps s.path.pointer _ v some_ rfl)
    · exact congrArg s.setPointer (postTo_keeps s.path.pointer _ v some_ rfl)
  · rintro (⟨o, rfl⟩ | rfl)
    · exact congrArg s.setPointer (postTo_joins s.path.pointer _ v rfl)
    · exact congrArg s.setPointer (postTo_joins s.path.pointer _ v rfl)

/-- Settles O54: the cause by the publication's state; the answers by the write's index and the held reads. -/
theorem publicationSteps : Obligations.PublicationSteps := by
  intro s up started due movedOn finished released rearmed
  have ends (u : State) : u.published = finished u := rfl
  have moves (u : State) : u.afterPublication = movedOn u := rfl
  have release : exec .heldReadRelease s = .next s.releaseAtEnd := congrArg _ (s.whenUp_high _ up)
  have start : exec .publicationStart s = .next s.startDue := congrArg _ (s.whenUp_high _ up)
  refine ⟨fun at_ armed now idle free => ?_, fun at_ armed now idle busy => ?_, fun at_ armed now isDue => ?_,
    fun at_ armed now publishing => ?_, fun isDue free => ?_, fun not_ => ?_, fun d t w data awaited write open_ more => ?_,
    fun d t w data awaited write open_ last => ?_, fun ended single => ?_, fun ended => ?_⟩
  · rw [exec_reportTimerExpiry s at_ up armed now, State.publicationCause_idle s.rearmed idle]
    exact congrArg _ (if_neg (fun h => Bool.false_ne_true (free.symm.trans h)))
  · rw [exec_reportTimerExpiry s at_ up armed now, State.publicationCause_idle s.rearmed idle]
    exact congrArg _ (if_pos busy)
  · rw [exec_reportTimerExpiry s at_ up armed now, State.publicationCause_due s.rearmed isDue]
    rfl
  · rw [exec_reportTimerExpiry s at_ up armed now, State.publicationCause_publishing s.rearmed publishing]
    rfl
  · exact start.trans (congrArg _ (if_pos ⟨isDue, by rw [free]; rfl⟩))
  · refine start.trans (congrArg _ (if_neg ?_))
    rintro ⟨isDue, free⟩
    cases not_ with
    | inl other => exact other isDue
    | inr busy =>
      rw [busy] at free
      exact Bool.false_ne_true free
  · obtain ⟨okRun, errorRun⟩ := exec_publicationWriteAnswer s d t data awaited write
    have still : (s.errored d).rep.pubWrite = some w := (State.raise_pubWrite _ _).trans open_
    refine ⟨?_, ?_⟩
    · rw [okRun, State.publicationAnswered_next (s.setDown d none) true w open_ more]
      rfl
    · rw [errorRun, State.publicationAnswered_next _ false w still more]
      rfl
  · obtain ⟨okRun, errorRun⟩ := exec_publicationWriteAnswer s d t data awaited write
    have still : (s.errored d).rep.pubWrite = some w := (State.raise_pubWrite _ _).trans open_
    intro answered faulted
    have okEnd : (s.setDown d none).publicationAnswered true = answered.endPublication :=
      State.publicationAnswered_last answered true w open_ last
    have errorEnd : (s.errored d).publicationAnswered false = faulted.endPublication :=
      State.publicationAnswered_last (s.errored d) false w still last
    have okHeld : answered.heldReads = s.heldReads := rfl
    have errorHeld : faulted.heldReads = s.heldReads :=
      State.heldReads_congr (State.raise_up ((s.setDown d none).bump .memoryError) .pathFault)
    rw [okEnd] at okRun
    rw [errorEnd] at errorRun
    clear_value answered faulted
    refine ⟨fun held => ⟨?_, ?_⟩, fun held => ⟨?_, ?_⟩⟩
    · rw [okRun, State.endPublication_held _ (fun none_ => held (okHeld.symm.trans none_)), ends]
    · rw [errorRun, State.endPublication_held _ (fun none_ => held (errorHeld.symm.trans none_)), ends]
    · rw [okRun, State.endPublication_unheld _ (okHeld.trans held), ends, moves]
    · rw [errorRun, State.endPublication_unheld _ (errorHeld.trans held), ends, moves]
  · have row : s.releaseAtEnd = s.releaseHeld.afterPublication := if_pos ended
    have idle : s.releaseHeld.afterPublication =
        s.releaseHeld.modRep fun r => { r with ended := false, followOn := false, pubState := .idle } :=
      if_neg (fun h => Bool.false_ne_true (single.symm.trans h))
    rw [release, row, idle]
    rfl
  · exact release.trans (congrArg _ (if_pos ended))

end Sys2Proof.Proofs
end

section
/-! The transmit side: the Submission Unit's rows, placements, the Copier's answers, and the pairs' timers (R120 to R159). -/

-- Theorem by theorem: the check's thread stacks leave no memory for many proofs at once behind the slow tests.
set_option Elab.async false

namespace Sys2Proof.Machine

/-! ## Answers of the Copier's and the Submission Unit's transactions -/

theorem State.succeed_copierRead (s : State) (t : DownTx) (data : List Word) (w : Work) (issuer : t.issuer = .copierRead)
    (working : s.dist.copier = some w) : s.succeed t data = s.copierReadOk w data := by
  unfold State.succeed
  rw [issuer]
  simp only [working]

theorem State.succeed_copierWrite (s : State) (t : DownTx) (data : List Word) (w : Work) (issuer : t.issuer = .copierWrite)
    (working : s.dist.copier = some w) : s.succeed t data = s.copierWriteOk w w.phase.written := by
  unfold State.succeed
  rw [issuer]
  simp only [working]

theorem State.succeed_fetch (s : State) (t : DownTx) (data : List Word) (f : Fetch) (issuer : t.issuer = .fetch)
    (fetching : s.subm.fetch = some f) : s.succeed t data = s.fetched f (recordOf data) := by
  unfold State.succeed
  rw [issuer]
  simp only [fetching]

theorem State.failTo_copier (s : State) (t : DownTx) (w : Work) (issuer : t.issuer = .copierRead ∨ t.issuer = .copierWrite)
    (working : s.dist.copier = some w) : s.failTo t = s.copierFailed w := by
  unfold State.failTo
  cases issuer with
  | inl read =>
    rw [read]
    simp only [working]
  | inr write =>
    rw [write]
    simp only [working]

theorem State.fetched_good (s : State) (f : Fetch) (r : SubmissionRecord) (c : TxClass) (good : s.checkRecord r = some c) :
    s.fetched f r =
      ((s.modSubm fun u => { u with fetch := none }).modSubm fun u => { u with queue := u.queue ++
        [{ number := f.number, buffer := r.buffer, length := r.length, cls := c, hostTag := r.hostTag,
           complAddr := f.slot + 12, fetchTime := s.clock.time, bytesCut := 0, published := 0, cutting := none,
           releaseAs := none }] }).recount := by
  unfold State.fetched
  simp only [good] <;> rfl

theorem State.fetched_bad (s : State) (f : Fetch) (r : SubmissionRecord) (bad : s.checkRecord r = none) :
    s.fetched f r =
      ((s.modSubm fun u => { u with fetch := none }).recount).complete (f.slot + 12) .badRecord 0 r.hostTag := by
  unfold State.fetched
  simp only [bad]

/-! ## Entries and frames (R126 to R131, R155) -/

theorem State.expireAge_found (s : State) (number : Half) (e : TxEntry)
    (found : s.subm.queue.find? (fun x => x.number == number && s.aged x) = some e) :
    s.expireAge number = s.completeEntry e .expired := by
  unfold State.expireAge
  rw [found]

/-- With no work in the Copier, nothing is abandoned (R155). -/
theorem State.abandonData_idle (s : State) (idle : s.dist.copier = none) : s.abandonData = s := by
  unfold State.abandonData
  rw [idle]

/-- The release of the frame being cut, with the Copier free (R129, R155). -/
theorem State.releaseFrame_idle (s : State) (st : Status) (f : CutFrame) (cut : s.dist.frame = some f)
    (first : s.dist.dropping = false) (idle : s.dist.copier = none) :
    s.releaseFrame st = (s.modEntry f.number fun e => { e with releaseAs := some st }).modDist fun d =>
      { d with dropping := true, toReplace := none } := by
  unfold State.releaseFrame
  rw [cut]
  exact (if_neg (by simp [first])).trans (State.abandonData_idle _ idle)

theorem State.closeFrame_found (s : State) (number : Half) (st : Status) (e : TxEntry)
    (found : s.subm.queue.find? (fun x => x.number == number) = some e) :
    s.closeFrame number st = (s.modDist fun d => { d with frame := none, dropping := false, toReplace := none }).completeEntry e st := by
  unfold State.closeFrame
  simp only [State.modDist_subm, found]

/-! ## Replenish rounds (R144, R145) -/

/-- A change of every pair's credit alone. -/
structure Credited (s t : State) : Prop where
  frame : ∃ pairs counters, t = { s with pairs := pairs, counters := counters }
  fill : ∀ q, (t.pair q).fill = (s.pair q).fill
  produced : ∀ q, (t.pair q).produced = (s.pair q).produced
  counts : ∀ c, c ≠ .replenish → t.count c = s.count c

theorem Credited.refl (s : State) : Credited s s := ⟨⟨s.pairs, s.counters, rfl⟩, fun _ => rfl, fun _ => rfl, fun _ _ => rfl⟩

theorem Credited.trans {s t u : State} (h : Credited s t) (g : Credited t u) : Credited s u := by
  obtain ⟨v, l, first⟩ := h.frame
  obtain ⟨w, m, second⟩ := g.frame
  exact ⟨⟨w, m, by rw [second, first]⟩, fun q => (g.fill q).trans (h.fill q), fun q => (g.produced q).trans (h.produced q),
    fun c other => (g.counts c other).trans (h.counts c other)⟩

theorem Credited.credit (s : State) (p : Pair) (x : Int) : Credited s (s.modPair p fun r => { r with credit := x }) := by
  refine ⟨⟨_, s.counters, rfl⟩, fun q => ?_, fun q => ?_, fun _ _ => rfl⟩
  · rw [State.pair_modPair]
    by_cases h : q = p <;> simp [h]
  · rw [State.pair_modPair]
    by_cases h : q = p <;> simp [h]

theorem Credited.foldl (f : State → Pair → State) (each : ∀ t p, Credited t (f t p)) (l : List Pair) (s : State) :
    Credited s (l.foldl f s) := by
  induction l generalizing s with
  | nil => exact .refl s
  | cons p ps ih => exact (each s p).trans (ih (f s p))

theorem State.round_credited (s : State) : Credited s s.round := by
  unfold State.round State.forPairs
  refine Credited.foldl _ (fun t p => ?_) allPairs s
  by_cases h : s.eligible p = true
  · simp only [h, if_true]
    exact Credited.credit t p _
  · simp only [h]
    exact .refl t

theorem State.replenish_credited (c : Cut) (n : Nat) (s : State) : Credited s (State.replenish c n s) := by
  induction n generalizing s with
  | zero => exact .refl s
  | succ n ih =>
    unfold State.replenish
    split
    · exact .refl s
    · have counted : Credited s.round (s.round.bump .replenish) :=
        ⟨⟨s.round.pairs, _, rfl⟩, fun _ => rfl, fun _ => rfl, fun c other => State.count_bump_ne _ _ _ _ other⟩
      exact (s.round_credited.trans counted).trans (ih _)

/-- What the charge and the cell of a taken fragment leave: its pair's fill and credit, the Copier and the data turn change (R148). -/
theorem State.takeFragment_pair (s : State) (buffer : Nat) (p : Pair) (f : Frag) :
    (s.takeFragment buffer p f).pair p =
      { s.pair p with fill := (s.pair p).fill + 1, credit := (s.pair p).credit - Int.ofNat f.length } := by
  have pairs : (s.takeFragment buffer p f).pair p =
      (((s.modPair p fun r => { r with fill := r.fill + 1 }).modPair p fun r =>
        { r with credit := (s.pair p).credit - Int.ofNat f.length }).pair p) := rfl
  rw [pairs, State.pair_modPair_self, State.pair_modPair_self]

/-! ## Placements by the Copier's choice (R148, R149, R153) -/

theorem exec_dataPlacement (s : State) (c : Cut) (up : s.pins.resetN = true) (chosen : s.nextWork = .data c) :
    exec .dataPlacement s = .next (s.placeNew c) := by
  refine congrArg _ ((s.whenUp_high _ up).trans ?_)
  unfold State.dataStep
  rw [chosen]

theorem exec_replaced (s : State) (c : Cut) (up : s.pins.resetN = true) (chosen : s.nextWork = .replace c) :
    exec .replaced s = .next (s.placeOld c) := by
  refine congrArg _ ((s.whenUp_high _ up).trans ?_)
  unfold State.replaceStep
  rw [chosen]

theorem exec_statusPlacement (s : State) (p : Pair) (up : s.pins.resetN = true) (chosen : s.nextWork = .status p) :
    exec .statusPlacement s = .next (s.placeStatus p) := by
  refine congrArg _ ((s.whenUp_high _ up).trans ?_)
  unfold State.statusStep
  rw [chosen]

theorem exec_provePlacement (s : State) (p : Pair) (up : s.pins.resetN = true) (chosen : s.nextWork = .prove p) :
    exec .provePlacement s = .next (s.placeProve p) := by
  refine congrArg _ ((s.whenUp_high _ up).trans ?_)
  unfold State.proveStep
  rw [chosen]

/-- A new fragment placed, from the replenished state t (R148). -/
def State.placedNew (s t : State) (c : Cut) (p : Pair) (fr : CutFrame) : State :=
  let f := cutFor (t.prof.active.maxPayload p) c t.dist.nextSeq
  ((t.takeFragment fr.buffer p f).modDist fun d =>
    { d with nextSeq := d.nextSeq + 1,
             frame := some { fr with bytesCut := fr.bytesCut + f.length, fragmentsCut := fr.fragmentsCut + 1 } }).modEntry
    fr.number fun e => { e with bytesCut := e.bytesCut + f.length, cutting := some s.now }

theorem State.placeNew_placed (s t : State) (c : Cut) (p : Pair) (fr : CutFrame) (replenished : State.replenish c 16 s = t)
    (chosen : t.choose c = some p) (cut : t.dist.frame = some fr) : s.placeNew c = s.placedNew t c p fr := by
  unfold State.placeNew
  simp only [replenished, chosen, cut] <;> rfl

/-- A fragment re-placed, from the replenished state t (R153). -/
def State.placedOld (s t : State) (c : Cut) (p : Pair) (fr : CutFrame) (g : Frag) : State :=
  let f := cutFor (t.prof.active.maxPayload p) c g.sequence
  let u := (t.takeFragment fr.buffer p f).bump .replaced
  ((if g.length - f.length = 0 then u else u.bump .recut).modDist fun d =>
    { d with toReplace := none, frame := some { fr with bytesCut := fr.bytesCut - (g.length - f.length) } }).modEntry
    fr.number fun e => { e with bytesCut := e.bytesCut - (g.length - f.length), cutting := some s.now }

theorem State.placeOld_placed (s t : State) (c : Cut) (p : Pair) (fr : CutFrame) (g : Frag)
    (replenished : State.replenish c 16 s = t) (chosen : t.choose c = some p) (cut : t.dist.frame = some fr)
    (waits : t.dist.toReplace = some g) : s.placeOld c = s.placedOld t c p fr g := by
  unfold State.placeOld
  simp only [replenished, chosen, cut, waits] <;> rfl

/-- The counters of a re-placed fragment: REPLACED, and RECUT where it got shorter (R153). -/
theorem State.placedOld_count (s t : State) (c : Cut) (p : Pair) (fr : CutFrame) (g : Frag) :
    (s.placedOld t c p fr g).count .replaced = satAdd32 (t.count .replaced) 1 ∧
      (s.placedOld t c p fr g).count .recut =
        if g.length - (cutFor (t.prof.active.maxPayload p) c g.sequence).length = 0 then t.count .recut
        else satAdd32 (t.count .recut) 1 := by
  generalize taken : (t.takeFragment fr.buffer p (cutFor (t.prof.active.maxPayload p) c g.sequence)) = u
  have counts (x : GCounter) : u.count x = t.count x := by rw [← taken]; rfl
  have counters : (s.placedOld t c p fr g).counters =
      (if g.length - (cutFor (t.prof.active.maxPayload p) c g.sequence).length = 0 then u.bump .replaced
        else (u.bump .replaced).bump .recut).counters := by rw [← taken]; rfl
  rw [State.count_congr counters, State.count_congr counters]
  split
  · exact ⟨by rw [State.count_bump_self, counts], by rw [State.count_bump_ne _ _ _ _ (by decide), counts]⟩
  · exact ⟨by rw [State.count_bump_ne _ _ _ _ (by decide), State.count_bump_self, counts],
      by rw [State.count_bump_self, State.count_bump_ne _ _ _ _ (by decide), counts]⟩

/-- The pairs and the Distributor of a re-placed fragment are those of the fragment taken, its frame re-cut (R153). -/
theorem State.placedOld_frame (s t : State) (c : Cut) (p : Pair) (fr : CutFrame) (g : Frag) :
    (s.placedOld t c p fr g).pairs =
        (t.takeFragment fr.buffer p (cutFor (t.prof.active.maxPayload p) c g.sequence)).pairs ∧
      (s.placedOld t c p fr g).dist =
        { (t.takeFragment fr.buffer p (cutFor (t.prof.active.maxPayload p) c g.sequence)).dist with
          toReplace := none
          frame := some { fr with
            bytesCut := fr.bytesCut - (g.length - (cutFor (t.prof.active.maxPayload p) c g.sequence).length) } } := by
  unfold State.placedOld
  simp only []
  split
  · exact ⟨rfl, rfl⟩
  · exact ⟨rfl, rfl⟩

/-! ## The Copier's work (R150 to R159) -/

theorem Work.isData_data {w : Work} {f : Frag} (kind : w.kind = .data f) : w.isData = true := by
  unfold Work.isData
  rw [kind]

theorem Work.isData_status {w : Work} (kind : w.kind = .status) : w.isData = false := by
  unfold Work.isData
  rw [kind]

theorem Work.length_data {w : Work} {f : Frag} (kind : w.kind = .data f) : w.length = f.length := by
  unfold Work.length
  rw [kind]

theorem Work.total_data {w : Work} {f : Frag} (kind : w.kind = .data f) : w.total = wordsFor f.length := by
  unfold Work.total
  rw [Work.isData_data kind, Work.length_data kind]
  rfl

theorem Work.total_status {w : Work} (kind : w.kind = .status) : w.total = w.words.length := by
  unfold Work.total
  rw [Work.isData_status kind]
  rfl

theorem State.copierReadOk_data (s : State) (w : Work) (f : Frag) (data : List Word) (kind : w.kind = .data f)
    (kept : w.abandoned = false) :
    s.copierReadOk w data = s.modDist fun x =>
      { x with copier := some { w with phase := .toWrite (keepBytesList data (f.length - 4 * w.done)) } } := by
  unfold State.copierReadOk
  rw [kept, Work.length_data kind]
  rfl

theorem State.copierFailed_data (s : State) (w : Work) (f : Frag) (fr : CutFrame) (kind : w.kind = .data f)
    (kept : w.abandoned = false) (cut : s.dist.frame = some fr) :
    s.copierFailed w = ((s.giveUpCell w).bump .copyFault).closeFrame fr.number .fault := by
  unfold State.copierFailed State.copyFault
  rw [kept, Work.isData_data kind]
  simp only [cut] <;> rfl

theorem State.copierFailed_status (s : State) (w : Work) (kind : w.kind = .status) (kept : w.abandoned = false)
    (own : w.detached = false) :
    s.copierFailed w = ((s.modPair w.pair fun r => { r with fill := r.fill - 1 }).modDist fun x =>
      { x with copier := none }).bumpPair w.pair .controlFault := by
  unfold State.copierFailed State.giveUpCell
  rw [kept, Work.isData_status kind, own]
  rfl

theorem State.copierWriteOk_next (s : State) (w : Work) (f : Frag) (n : Nat) (kind : w.kind = .data f) (kept : w.abandoned = false)
    (more : w.done + n < wordsFor f.length) :
    s.copierWriteOk w n = s.modDist fun x => { x with copier := some { w with done := w.done + n, phase := .toRead } } := by
  have total : ({ w with done := w.done + n } : Work).total = wordsFor f.length := Work.total_data (f := f) kind
  have open_ : ¬ w.abandoned = true := by rw [kept]; exact Bool.false_ne_true
  refine ((if_neg open_).trans (if_pos (total.symm ▸ more))).trans ?_
  simp only [Work.isData_data kind, if_true]

/-- A STATUS that is not spoilt is published: the producer count goes up and is posted, TX_STATUS is counted (R151, R159). -/
theorem State.copierWriteOk_status (s : State) (w : Work) (n : Nat) (kind : w.kind = .status) (kept : w.abandoned = false)
    (whole : w.words.length ≤ w.done + n) (pure_ : w.spoilt = false) :
    s.copierWriteOk w n = ((((s.modPair w.pair fun r => { r with produced := r.produced + 1 }).modDist fun x =>
      { x with copier := none }).postCount (txProducerOffset w.pair) ((s.pair w.pair).produced + 1)).bumpPair w.pair .txStatus) := by
  let v : Work := { w with done := w.done + n }
  have total : v.total = w.words.length := Work.total_status (w := v) kind
  have open_ : ¬ w.abandoned = true := by rw [kept]; exact Bool.false_ne_true
  have published : s.copierWriteOk w n = s.publish v := (if_neg open_).trans (if_neg (total.symm ▸ Nat.not_lt.2 whole))
  have plain : s.publish v = (s.publishCell v).bumpPair w.pair .txStatus := by
    unfold State.publish
    simp only [show v.kind = .status from kind] <;> rfl
  have cell : s.publishCell v = ((s.modPair w.pair fun r => { r with produced := r.produced + 1 }).modDist fun x =>
      { x with copier := none }).postCount (txProducerOffset w.pair) ((s.pair w.pair).produced + 1) := by
    have count : (((s.modPair w.pair fun r => { r with produced := r.produced + 1 }).modDist fun x =>
        { x with copier := none }).pair w.pair).produced = (s.pair w.pair).produced + 1 :=
      congrArg PairRec.produced (s.pair_modPair_self w.pair fun r => { r with produced := r.produced + 1 })
    unfold State.publishCell
    simp only [show v.spoilt = false from pure_, Bool.false_eq_true, if_false]
    exact congrArg _ count
  rw [published, plain, cell]

/-! ## The pairs' timers (R156, R169, R176) -/

/-- A due deadline is present and reached. -/
theorem State.due_some {s : State} {o : Option Time} {at_ : Time} (armed : o = some at_) (now : reached s.clock.time at_ = true) :
    s.due o = true := by
  rw [armed]
  exact now

end Sys2Proof.Machine

namespace Sys2Proof.Proofs
open Sys2Proof.Machine

/-- Settles O37. -/
theorem submissionUnitSteps : Obligations.SubmissionUnitSteps := by
  intro s up
  refine ⟨fun g ring more idle room => ?_, fun e free still chosen => ?_, fun waits empty idle caught => ?_⟩
  · have can : s.subm.canFetch = true := by simp [Submission.canFetch, ring, more, idle, room]
    refine congrArg _ ((s.whenUp_high _ up).trans ?_)
    rw [can, State.whenever_true]
    unfold State.offerFetch
    simp only [ring] <;> rfl
  · refine congrArg _ ((s.whenUp_high _ up).trans ?_)
    have row : s.selectNext = s.selectFrame e := by
      unfold State.selectNext
      simp only [free, still, chosen, Option.isSome_none, Bool.or_self, Bool.false_eq_true, if_false]
    rw [row]
    rfl
  · have idle_ : (s.subm.ringWaiting && s.subm.idle) = true := by simp [Submission.idle, waits, empty, idle, caught]
    refine congrArg _ ((s.whenUp_high _ up).trans ?_)
    rw [idle_]
    rfl

/-- Settles O38: the record is judged by its check alone. -/
theorem fetchedRecordTaken : Obligations.FetchedRecordTaken := by
  intro s d t f w0 w1 w2 awaited kind count fetching r free
  have issuer : t.issuer = .fetch := State.awaits_issuer awaited
  have run : exec (.fetchAnswer d (.ok [w0, w1, w2])) s = .next ((s.setDown d none).fetched f r) := by
    calc exec (.fetchAnswer d (.ok [w0, w1, w2])) s
        = .next ((s.setDown d none).succeed t [w0, w1, w2]) :=
          exec_answerOk s Issuer.isFetch d t _ _ awaited rfl (t.fits_read _ (.inl kind) (by rw [count]; rfl))
      _ = _ := by rw [State.succeed_fetch (s.setDown d none) t _ f issuer fetching]; rfl
  refine ⟨fun c good => ?_, fun bad => ?_⟩
  · rw [run, State.fetched_good (s.setDown d none) f r c good]
    rfl
  · rw [run, State.fetched_bad (s.setDown d none) f r bad]
    rfl

/-- Settles O40. -/
theorem frameExpiries : Obligations.FrameExpiries := by
  intro s up
  refine ⟨fun e found => ?_, fun e f b cutting base now cut first idle => ?_, fun e f st cut dropping idle found as => ?_⟩
  · exact congrArg _ ((s.whenUp_high _ up).trans (s.expireAge_found e.number e found))
  · have due : s.due (s.stallDeadline e) = true := State.due_some (by unfold State.stallDeadline; rw [base]; rfl) now
    have row : s.stallDue = s.releaseFrame .stalled := by
      unfold State.stallDue
      rw [cutting]
      exact if_pos due
    refine congrArg _ ((s.whenUp_high _ up).trans ?_)
    rw [row, s.releaseFrame_idle .stalled f cut first idle]
  · have releasable : s.frameReleasable = true := by simp [State.frameReleasable, dropping, idle]
    have status : s.releaseStatus f.number = st := by
      unfold State.releaseStatus
      rw [found]
      simp only [as, Option.getD_some]
    have row : s.reportReleased = s.closeFrame f.number (s.releaseStatus f.number) := by
      unfold State.reportReleased
      rw [cut]
      exact if_pos releasable
    refine congrArg _ ((s.whenUp_high _ up).trans ?_)
    rw [row, status, s.closeFrame_found f.number st e found]

/-- Settles O42: the replenish rounds change credits alone, and the fragment is charged to the pair chosen after them. -/
theorem dataPlaced : Obligations.DataPlaced := by
  intro s c p fr up chosen cut m credit
  have rounds := State.replenish_credited c 16 s
  obtain ⟨pairs, counters, frame⟩ := rounds.frame
  generalize replenished : State.replenish c 16 s = u at chosen rounds frame
  have dist : u.dist = s.dist := by rw [frame]
  have prof : u.prof = s.prof := by rw [frame]
  have nextSeq : u.dist.nextSeq = s.dist.nextSeq := congrArg Dist.nextSeq dist
  have reseq : u.reseq = s.reseq := by rw [frame]
  have deliv : u.deliv = s.deliv := by rw [frame]
  have path : u.path = s.path := by rw [frame]
  have charge : (u.pair p).credit = credit := congrArg (fun x => (State.pair x p).credit) replenished.symm
  have cut' : u.dist.frame = some fr := by rw [dist, cut]
  refine ⟨fun next => ?_, fun g next waits => ?_⟩
  · have run := (exec_dataPlacement s c up next).trans (congrArg _ (s.placeNew_placed u c p fr replenished chosen cut'))
    have record := u.takeFragment_pair fr.buffer p (cutFor (u.prof.active.maxPayload p) c u.dist.nextSeq)
    have length : (cutFor (u.prof.active.maxPayload p) c u.dist.nextSeq).length = min c.limit m := by rw [prof]; rfl
    refine ⟨_, _, cutFor (u.prof.active.maxPayload p) c u.dist.nextSeq, run, rfl, rfl, rfl, nextSeq, rfl, length,
      beq_iff_eq, ?_, ?_, rfl, ?_, ?_, ?_, ?_, ?_, ?_⟩
    · rw [← length]
      exact beq_iff_eq
    · exact congrArg (· + 1) nextSeq
    · exact (congrArg PairRec.fill record).trans (congrArg (· + 1) (rounds.fill p))
    · exact (congrArg PairRec.credit record).trans (congrArg (· - Int.ofNat _) charge)
    · exact (congrArg PairRec.produced record).trans (rounds.produced p)
    · exact reseq
    · exact deliv
    · exact path
  · have waits' : u.dist.toReplace = some g := by rw [dist, waits]
    have run := (exec_replaced s c up next).trans
      (congrArg _ (s.placeOld_placed u c p fr g replenished chosen cut' waits'))
    have record := u.takeFragment_pair fr.buffer p (cutFor (u.prof.active.maxPayload p) c g.sequence)
    have length : (cutFor (u.prof.active.maxPayload p) c g.sequence).length = min c.limit m := by rw [prof]; rfl
    obtain ⟨pairs_, dist_⟩ := s.placedOld_frame u c p fr g
    obtain ⟨replaced, recut⟩ := s.placedOld_count u c p fr g
    have pair_ := State.pair_congr pairs_ p
    refine ⟨_, _, cutFor (u.prof.active.maxPayload p) c g.sequence, run, congrArg Dist.copier dist_, rfl, rfl, rfl, rfl, length,
      ?_, ?_, ?_, ?_, ?_, ?_, ?_⟩
    · exact (congrArg Dist.nextSeq dist_).trans nextSeq
    · exact congrArg Dist.toReplace dist_
    · exact congrArg Dist.frame dist_
    · rw [pair_, record, ← rounds.fill p]
    · rw [pair_, record, ← charge]
    · rw [replaced, rounds.counts _ (by decide)]
    · rw [recut, rounds.counts _ (by decide)]

/-- Settles O43: control work is the pair's record and the Distributor changed once each. -/
theorem controlPlaced : Obligations.ControlPlaced := by
  intro s p up spoilt g i work
  refine ⟨fun chosen => ?_, fun chosen => ?_⟩
  · have placed : s.placeStatus p = ((s.modPair p fun r => { r with fill := r.fill + 1 }).modPair p fun r =>
        { r with statusDue := false }).modDist fun x =>
          { x with copier := some (work .status
              (buildHeader kindStatus false false p g 0 16 0 spoilt ++ buildStatus (s.statusPayload p))),
                   controlTurn := p + 1 } := rfl
    rw [exec_statusPlacement s p up chosen, placed, State.modPair_modPair]
  · have placed : s.placeProve p = ((s.modPair p fun r => { r with fill := r.fill + 1 }).modPair p fun r =>
        { r with lastProve := some s.clock.time }).modDist fun x =>
          { x with copier := some (work .prove (buildHeader kindProve false false p g 0 256 i spoilt ++ buildProve i)),
                   controlTurn := p + 1 } := rfl
    rw [exec_provePlacement s p up chosen, placed, State.modPair_modPair]

/-- Settles O44: the answer goes to the Copier's work, by its kind and the words written. -/
theorem copierAnswers : Obligations.CopierAnswers := by
  intro s d t w data working kept
  have failing : (s.errored d).dist.copier = some w := by rw [State.errored_dist, working]
  refine ⟨fun f kind awaited read length => ?_, fun f fr kind awaited cut => ?_, fun f n kind phase more awaited write => ?_,
    fun n kind phase whole pure_ awaited write => ?_, fun kind own awaited => ?_⟩
  · have issuer : t.issuer = .copierRead := State.awaits_issuer awaited
    calc exec (.copierReadAnswer d (.ok data)) s
        = .next ((s.setDown d none).succeed t data) :=
          exec_answerOk s Issuer.isCopierRead d t _ _ awaited rfl (t.fits_read data (.inl read) length)
      _ = .next ((s.setDown d none).copierReadOk w data) := by rw [State.succeed_copierRead (s.setDown d none) t data w issuer working]
      _ = _ := by rw [State.copierReadOk_data _ w f data kind kept]
  · have issuer : t.issuer = .copierRead := State.awaits_issuer awaited
    calc exec (.copierReadAnswer d .error) s
        = .next ((s.errored d).failTo t) := exec_answerError s Issuer.isCopierRead d t _ awaited rfl (by decide)
      _ = .next ((s.errored d).copierFailed w) := by rw [State.failTo_copier _ t w (.inl issuer) failing]
      _ = _ := by
        rw [State.copierFailed_data _ w f fr kind kept (by rw [State.errored_dist, cut])]
        rfl
  · have issuer : t.issuer = .copierWrite := State.awaits_issuer awaited
    have written : w.phase.written = n := by rw [phase]; rfl
    calc exec (.copierWriteAnswer d (.ok data)) s
        = .next ((s.setDown d none).succeed t data) :=
          exec_answerOk s Issuer.isCopierWrite d t _ _ awaited rfl (t.fits_write data write)
      _ = .next ((s.setDown d none).copierWriteOk w n) := by
        rw [State.succeed_copierWrite (s.setDown d none) t data w issuer working, written]
      _ = _ := by rw [State.copierWriteOk_next _ w f n kind kept more]
  · have issuer : t.issuer = .copierWrite := State.awaits_issuer awaited
    have written : w.phase.written = n := by rw [phase]; rfl
    calc exec (.copierWriteAnswer d (.ok data)) s
        = .next ((s.setDown d none).succeed t data) :=
          exec_answerOk s Issuer.isCopierWrite d t _ _ awaited rfl (t.fits_write data write)
      _ = .next ((s.setDown d none).copierWriteOk w n) := by
        rw [State.succeed_copierWrite (s.setDown d none) t data w issuer working, written]
      _ = _ := by
        rw [State.copierWriteOk_status _ w n kind kept whole pure_]
        rfl
  · have issuer : t.issuer = .copierWrite := State.awaits_issuer awaited
    calc exec (.copierWriteAnswer d .error) s
        = .next ((s.errored d).failTo t) := exec_answerError s Issuer.isCopierWrite d t _ awaited rfl (by decide)
      _ = .next ((s.errored d).copierFailed w) := by rw [State.failTo_copier _ t w (.inr issuer) failing]
      _ = _ := by
        rw [State.copierFailed_status _ w kind kept own]
        rfl

/-- Settles O45. -/
theorem pairTimers : Obligations.PairTimers := by
  intro s p at_ up now
  have expiry (armed : (s.pair p).statusTimer = some at_) : exec (.statusTimerExpiry p) s = .next (s.statusExpire p) := by
    refine congrArg _ ((s.whenUp_high _ up).trans ?_)
    rw [State.due_some armed now]
    rfl
  refine ⟨fun armed clear => ?_, fun armed still => ?_, fun down armed => ?_, fun e active entered base => ?_⟩
  · rw [expiry armed]
    refine congrArg _ (State.modPair_congr _ _ _ _ ?_)
    simp only [clear, Bool.false_eq_true, if_false] <;> rfl
  · rw [expiry armed]
    refine congrArg _ (State.modPair_congr _ _ _ _ ?_)
    simp only [still, if_true] <;> rfl
  · have due : s.stateDue p .down = true := by
      unfold State.stateDue
      rw [down, State.due_some armed now]
      rfl
    refine congrArg _ ((s.whenUp_high _ up).trans ?_)
    rw [due]
    rfl
  · have long : s.longActive p = true := by
      unfold State.longActive
      rw [active, State.due_some (by rw [entered]; exact congrArg some base) now]
      rfl
    refine congrArg _ ((s.whenUp_high _ up).trans ?_)
    rw [long]
    rfl

end Sys2Proof.Proofs
end

section
/-! The answer of a redirected read (R106 to R108), and the fragment header built and read back (R23, R24, R195, R216). -/

-- Theorem by theorem: the check's thread stacks leave no memory for many proofs at once behind the slow tests.
set_option Elab.async false

namespace Sys2Proof.Machine

/-! ## A redirected read of one piece (R106 to R108) -/

theorem State.succeed_piece (s : State) (t : DownTx) (data : List Word) (l : Label) (second : Bool)
    (issuer : t.issuer = .piece l second) : s.succeed t data = s.pieceEnded l second (some data) := by
  unfold State.succeed
  rw [issuer]

theorem State.failTo_piece (s : State) (t : DownTx) (l : Label) (second : Bool) (issuer : t.issuer = .piece l second) :
    s.failTo t = s.pieceEnded l second none := by
  unfold State.failTo
  rw [issuer]

/-- The only piece has ended with its words: the read is answered. -/
theorem State.pieceEnded_only (s : State) (u : UpTx) (r : Redirect) (p : Piece) (data : List Word)
    (open_ : s.upTx u.label = some u) (stage : u.stage = .redirected r) (only : r.pieces = [p]) (sound : r.faulted = false) :
    s.pieceEnded u.label false (some data) =
      (s.setStage u.label (.redirected { r with pieces := [{ p with stage := .ended data }] })).answerRedirect u
        { r with pieces := [{ p with stage := .ended data }] } := by
  unfold State.pieceEnded
  simp only [open_, stage, only, sound, setPiece, Bool.false_and, Bool.false_eq_true, if_false] <;> rfl

/-- The only piece has failed: READ_FAULT is counted and the read is answered. -/
theorem State.pieceEnded_only_failed (s : State) (u : UpTx) (r : Redirect) (p : Piece)
    (open_ : s.upTx u.label = some u) (stage : u.stage = .redirected r) (only : r.pieces = [p]) (sound : r.faulted = false) :
    s.pieceEnded u.label false none =
      ((s.bump .readFault).setStage u.label
        (.redirected { r with pieces := [{ p with stage := .failed }], faulted := true })).answerRedirect u
        { r with pieces := [{ p with stage := .failed }], faulted := true } := by
  unfold State.pieceEnded
  simp only [open_, stage, only, sound, setPiece, withdrawPieces, Bool.not_false, Bool.and_self, if_true] <;> rfl

/-- Whether a read's entries became void depends on the Delivery Queue and the bytes the read covers. -/
theorem State.spoilt_congr {s t : State} {r x : Redirect} (deliv : t.deliv = s.deliv) (frame : x.frame = r.frame)
    (start : x.start = r.start) (n : Nat) : t.spoilt x n = s.spoilt r n := by
  unfold State.spoilt State.frame
  rw [deliv, frame, start]

theorem State.answerRedirect_spoilt (s : State) (u : UpTx) (r : Redirect) (spoilt : s.spoilt r u.count = true) :
    s.answerRedirect u r =
      (((s.closeUp (errorResponse u.label u.tag)).bump .voidRead).raise .strayRead).dropPin r.frame := if_pos spoilt

theorem State.answerRedirect_faulted (s : State) (u : UpTx) (r : Redirect) (spoilt : s.spoilt r u.count = false)
    (faulted : r.faulted = true) :
    s.answerRedirect u r = (s.closeUp (errorResponse u.label u.tag)).dropPin r.frame :=
  (if_neg (spoilt.symm ▸ Bool.false_ne_true)).trans (if_pos faulted)

theorem State.answerRedirect_ok (s : State) (u : UpTx) (r : Redirect) (spoilt : s.spoilt r u.count = false)
    (sound : r.faulted = false) :
    s.answerRedirect u r = (s.closeUp (okResponse u.label u.tag (r.data u.count))).dropPin r.frame :=
  (if_neg (spoilt.symm ▸ Bool.false_ne_true)).trans (if_neg (sound.symm ▸ Bool.false_ne_true))

/-! ## Halves and bytes of a word -/

@[simp] theorem highHalf_wordOfHalves (h l : Half) : highHalf (wordOfHalves h l) = h :=
  BitVec.extractLsb'_append_eq_left

@[simp] theorem lowHalf_wordOfHalves (h l : Half) : lowHalf (wordOfHalves h l) = l :=
  BitVec.extractLsb'_append_eq_right

/-- Bytes 0 and 1 lie in the first half, bytes 2 and 3 in the second. -/
theorem byteOf_first (h l : Half) (n : Nat) (first : n < 2) : byteOf (wordOfHalves h l) n = h.extractLsb' (8 * (1 - n)) 8 := by
  ext i hi
  have at_ : 8 * (3 - n) + i = 16 + (8 * (1 - n) + i) := by omega
  simp only [byteOf, wordOfHalves, BitVec.getElem_extractLsb', BitVec.getLsbD_append, at_]
  simp

theorem byteOf_second (h l : Half) (n : Nat) (second : 2 ≤ n) : byteOf (wordOfHalves h l) n = l.extractLsb' (8 * (3 - n)) 8 := by
  ext i hi
  have at_ : 8 * (3 - n) + i < 16 := by omega
  simp only [byteOf, wordOfHalves, BitVec.getElem_extractLsb', BitVec.getLsbD_append, at_, if_true]

/-- The high and the low byte of a half. -/
@[simp] theorem highByte_append (a b : Byte) : (a ++ b : Half).extractLsb' 8 8 = a := BitVec.extractLsb'_append_eq_left
@[simp] theorem lowByte_append (a b : Byte) : (a ++ b : Half).extractLsb' 0 8 = b := BitVec.extractLsb'_append_eq_right

/-! ## The header (R216) -/

/-- The first header byte: kind, S, E and lane. -/
def leadByte (kind : BitVec 3) (s e : Bool) (lane : Fin 8) : Byte :=
  kind ++ BitVec.ofBool s ++ BitVec.ofBool e ++ BitVec.ofNat 3 lane.val

/-- The bits of a word's byte 0 at their places in the word. -/
theorem wordOfHalves_lead (a b : Byte) (l : Half) (start len : Nat) :
    (wordOfHalves (a ++ b) l).extractLsb' (24 + start) len = a.extractLsb' start len := by
  ext i hi
  have high : ¬ 24 + start + i < 16 := by omega
  have middle : ¬ 24 + start + i - 16 < 8 := by omega
  have place : 24 + start + i - 16 - 8 = start + i := by omega
  simp only [wordOfHalves, BitVec.getElem_extractLsb', BitVec.getLsbD_append, high, middle, place, if_false]

/-- A bit of a word's byte 0. -/
theorem wordOfHalves_leadBit (a b : Byte) (l : Half) (i : Nat) :
    (wordOfHalves (a ++ b) l).getLsbD (24 + i) = a.getLsbD i := by
  have high : ¬ 24 + i < 16 := by omega
  have middle : ¬ 24 + i - 16 < 8 := by omega
  have place : 24 + i - 16 - 8 = i := by omega
  simp only [wordOfHalves, BitVec.getLsbD_append, high, middle, place, if_false]

theorem leadByte_kind (kind : BitVec 3) (s e : Bool) (lane : Fin 8) : (leadByte kind s e lane).extractLsb' 5 3 = kind := by
  revert kind s e lane
  decide

theorem leadByte_flags (kind : BitVec 3) (s e : Bool) (lane : Fin 8) :
    (leadByte kind s e lane).getLsbD 4 = s ∧ (leadByte kind s e lane).getLsbD 3 = e := by
  revert kind s e lane
  decide

theorem leadByte_lane (kind : BitVec 3) (s e : Bool) (lane : Fin 8) :
    ((leadByte kind s e lane).extractLsb' 0 3).toNat = lane.val := by
  revert kind s e lane
  decide

/-- The check covers the first seven bytes: the second word's last byte does not enter it. -/
theorem headerBytes_check (w0 : Word) (length : Half) (info check : Byte) :
    headerBytes w0 (wordOfHalves length (info ++ check)) = headerBytes w0 (wordOfHalves length (info ++ 0#8)) := by
  have same (n : Nat) (before : n < 3) :
      byteOf (wordOfHalves length (info ++ check)) n = byteOf (wordOfHalves length (info ++ 0#8)) n := by
    by_cases first : n < 2
    · rw [byteOf_first _ _ n first, byteOf_first _ _ n first]
    · obtain rfl : n = 2 := by omega
      rw [byteOf_second _ _ 2 (by omega), byteOf_second _ _ 2 (by omega)]
      exact (highByte_append info check).trans (highByte_append info 0#8).symm
  unfold headerBytes
  rw [same 0 (by omega), same 1 (by omega), same 2 (by omega)]

/-- The check byte a header carries: its check, or 255 minus it where it is spoilt (R195). -/
def carried (check : Byte) (spoilt : Bool) : Byte := if spoilt then 255#8 - check else check

theorem headerWord1_eq (w0 : Word) (length : Half) (info : Byte) (spoilt : Bool) :
    headerWord1 w0 length info spoilt =
      wordOfHalves length (info ++ carried (crc8 (headerBytes w0 (wordOfHalves length (info ++ 0#8)))) spoilt) := rfl

/-- A byte differs from 255 minus it, since 255 is odd. -/
theorem ne_carried_spoilt (c : Byte) : c ≠ carried c true := by
  unfold carried
  revert c
  decide

/-- The fields of the second header word. -/
theorem parseHeader_word1 (w0 : Word) (length : Half) (info check : Byte) :
    (parseHeader w0 (wordOfHalves length (info ++ check))).length = length ∧
      (parseHeader w0 (wordOfHalves length (info ++ check))).info = info ∧
      (parseHeader w0 (wordOfHalves length (info ++ check))).check = check :=
  ⟨highHalf_wordOfHalves _ _, (byteOf_second _ _ 2 (by omega)).trans (highByte_append info check),
    (byteOf_second _ _ 3 (by omega)).trans (lowByte_append info check)⟩

/-- The fields of the first header word. -/
theorem parseHeader_word0 (kind : BitVec 3) (s e : Bool) (lane : Fin 8) (generation : Byte) (sequence : Half) (w1 : Word) :
    let h := parseHeader (headerWord0 kind s e lane generation sequence) w1
    h.kind = kind ∧ h.s = s ∧ h.e = e ∧ h.lane = lane ∧ h.generation = generation ∧ h.sequence = sequence := by
  intro h
  have word : headerWord0 kind s e lane generation sequence = wordOfHalves (leadByte kind s e lane ++ generation) sequence := rfl
  obtain ⟨sBit, eBit⟩ := leadByte_flags kind s e lane
  refine ⟨?_, ?_, ?_, Fin.ext ?_, ?_, ?_⟩
  · exact (wordOfHalves_lead _ generation sequence 5 3).trans (leadByte_kind kind s e lane)
  · exact (wordOfHalves_leadBit _ generation sequence 4).trans sBit
  · exact (wordOfHalves_leadBit _ generation sequence 3).trans eBit
  · exact (congrArg BitVec.toNat (wordOfHalves_lead _ generation sequence 0 3)).trans (leadByte_lane kind s e lane)
  · exact (byteOf_first _ sequence 1 (by omega)).trans (lowByte_append _ generation)
  · exact lowHalf_wordOfHalves _ sequence

/-- A header whose check byte is its check is judged by its kind and length. -/
theorem classifyHeader_carried (w0 : Word) (length : Half) (info : Byte) (spoilt : Bool) :
    let h := parseHeader w0 (headerWord1 w0 length info spoilt)
    classifyHeader w0 (headerWord1 w0 length info spoilt) =
      if crc8 (headerBytes w0 (wordOfHalves length (info ++ 0#8))) ≠
          carried (crc8 (headerBytes w0 (wordOfHalves length (info ++ 0#8)))) spoilt then .check
      else if h.kind ≠ kindData ∧ h.kind ≠ kindStatus ∧ h.kind ≠ kindProve then .kind
      else if h.length = 0 ∨ h.length.toNat > 1016 then .length
      else .none := by
  intro h
  have check : h.check = carried (crc8 (headerBytes w0 (wordOfHalves length (info ++ 0#8)))) spoilt := by
    obtain ⟨-, -, check⟩ := parseHeader_word1 w0 length info _
    exact check
  have covered : headerBytes w0 (headerWord1 w0 length info spoilt) = headerBytes w0 (wordOfHalves length (info ++ 0#8)) :=
    headerBytes_check w0 length info _
  rw [← check, ← covered]
  rfl

end Sys2Proof.Machine

namespace Sys2Proof.Proofs
open Sys2Proof.Machine

/-- Settles O36. -/
theorem pieceAnswersTheRead : Obligations.PieceAnswersTheRead := by
  intro s d t u r p data awaited open_ stage only sound ended failed onOk onError
  have issuer : t.issuer = .piece u.label false := State.awaits_issuer awaited
  have okRun (kind : t.kind = .read) (length : data.length = t.count) :
      exec (.pieceEnd d (.ok data)) s = .next (onOk.answerRedirect u ended) := by
    calc exec (.pieceEnd d (.ok data)) s
        = .next ((s.setDown d none).succeed t data) :=
          exec_answerOk s Issuer.isPiece d t _ _ awaited rfl (t.fits_read data (.inl kind) length)
      _ = _ := by rw [State.succeed_piece _ t data _ _ issuer, State.pieceEnded_only (s.setDown d none) u r p data open_ stage only sound]
  refine ⟨fun kind length pure_ => ?_, fun kind length spoilt => ?_, fun pure_ => ?_⟩
  · rw [okRun kind length, State.answerRedirect_ok onOk u ended ((State.spoilt_congr rfl rfl rfl _).trans pure_) sound]
  · rw [okRun kind length, State.answerRedirect_spoilt onOk u ended ((State.spoilt_congr rfl rfl rfl _).trans spoilt)]
  · have still : (s.errored d).upTx u.label = some u := (State.upTx_congr (State.raise_up _ _) _).trans open_
    have deliv : onError.deliv = s.deliv := State.raise_deliv _ _
    calc exec (.pieceEnd d .error) s
        = .next ((s.errored d).failTo t) := exec_answerError s Issuer.isPiece d t _ awaited rfl (by simp)
      _ = .next (onError.answerRedirect u failed) := by
        rw [State.failTo_piece _ t _ _ issuer, State.pieceEnded_only_failed _ u r p still stage only sound]
        rfl
      _ = _ := by rw [State.answerRedirect_faulted onError u failed ((State.spoilt_congr deliv rfl rfl _).trans pure_) rfl]

/-- Settles O55: the fields lie at their own bits, and the check byte does not enter the check. -/
theorem headersReadBackAsBuilt : Obligations.HeadersReadBackAsBuilt := by
  intro kind s e lane generation sequence length info spoilt
  obtain ⟨kind_, s_, e_, lane_, generation_, sequence_⟩ :=
    parseHeader_word0 kind s e lane generation sequence
      (headerWord1 (headerWord0 kind s e lane generation sequence) length info spoilt)
  generalize built : headerWord0 kind s e lane generation sequence = w0 at kind_ s_ e_ lane_ generation_ sequence_
  obtain ⟨length_, info_, -⟩ := parseHeader_word1 w0 length info
    (carried (crc8 (headerBytes w0 (wordOfHalves length (info ++ 0#8)))) spoilt)
  rw [← headerWord1_eq] at length_ info_
  refine ⟨w0, headerWord1 w0 length info spoilt, ?_, kind_, s_, e_, lane_, generation_, sequence_, length_, info_,
    fun spoils => ?_, fun sound known positive short => ?_⟩
  · rw [← built]
    rfl
  · rw [classifyHeader_carried, spoils]
    exact if_pos (ne_carried_spoilt _)
  · have good : ¬ (kind ≠ kindData ∧ kind ≠ kindStatus ∧ kind ≠ kindProve) := by
      rintro ⟨data, status, prove⟩
      exact known.elim data fun h => h.elim status prove
    have fits : ¬ (length = 0 ∨ length.toNat > 1016) := fun h => h.elim positive (Nat.not_lt.2 short)
    rw [classifyHeader_carried, kind_, length_, sound, if_neg (fun h => h rfl), if_neg good, if_neg fits]

end Sys2Proof.Proofs
end

section
/-! What the Pair Supervisor's operations leave of the transmit side and the counters; the recompute and the surge stop (R138, R139, R180,
R189 to R192). -/

-- Theorem by theorem: the check's thread stacks leave no memory for many proofs at once behind the slow tests.
set_option Elab.async false

namespace Sys2Proof.Machine

/-! ## What a change of a pair's state leaves -/

/-- What a change of a pair's state leaves: the Submission Unit, the pending target and the pool in use, the allocations, and the counters
other than those of head processing. -/
structure Apart (s t : State) : Prop where
  subm     : t.subm = s.subm
  target   : t.dist.target = s.dist.target
  poolBase : t.dist.poolBase = s.dist.poolBase
  poolSize : t.dist.poolSize = s.dist.poolSize
  alloc    : ∀ p, (t.pair p).alloc = (s.pair p).alloc
  counts   : ∀ c, c ∉ headCounters → t.count c = s.count c

theorem Apart.refl (s : State) : Apart s s := ⟨rfl, rfl, rfl, rfl, fun _ => rfl, fun _ _ => rfl⟩

theorem Apart.trans {s t u : State} (h : Apart s t) (g : Apart t u) : Apart s u :=
  ⟨g.subm.trans h.subm, g.target.trans h.target, g.poolBase.trans h.poolBase, g.poolSize.trans h.poolSize,
    fun p => (g.alloc p).trans (h.alloc p), fun c other => (g.counts c other).trans (h.counts c other)⟩

theorem Apart.foldl {α : Type} (f : State → α → State) (each : ∀ u x, Apart u (f u x)) (l : List α) (s : State) :
    Apart s (l.foldl f s) := by
  induction l generalizing s with
  | nil => exact .refl s
  | cons x xs ih => exact (each s x).trans (ih (f s x))

theorem Apart.forPairs (f : State → Pair → State) (each : ∀ u p, Apart u (f u p)) (s : State) : Apart s (s.forPairs f) :=
  Apart.foldl f each allPairs s

namespace Apart

variable {s t : State} (h : Apart s t)
include h

/-- Head processing and closure are apart. -/
theorem aside {u : State} (g : Aside t u) (watched : u.watched = t.watched) : Apart s u :=
  h.trans ⟨g.subm, by rw [g.dist], by rw [g.dist], by rw [g.dist],
    fun p => congrArg Watch.alloc (State.watch_of_watched watched p), g.counts⟩

theorem raise {e : Event} : Apart s (t.raise e) := h.aside ((Aside.refl t).raise) (t.watched_raise e)

theorem modPair {p : Pair} {f : PairRec → PairRec} (hf : ∀ r, (f r).alloc = r.alloc := by intro r; rfl) : Apart s (t.modPair p f) := by
  refine h.trans ⟨rfl, rfl, rfl, rfl, fun q => ?_, fun _ _ => rfl⟩
  rw [State.pair_modPair]
  split
  · next e => rw [hf, e]
  · rfl

theorem modDist {f : Dist → Dist} (target : (f t.dist).target = t.dist.target := by rfl)
    (poolBase : (f t.dist).poolBase = t.dist.poolBase := by rfl) (poolSize : (f t.dist).poolSize = t.dist.poolSize := by rfl) :
    Apart s (t.modDist f) := h.trans ⟨rfl, target, poolBase, poolSize, fun _ => rfl, fun _ _ => rfl⟩

theorem giveUpCell {w : Work} : Apart s (t.giveUpCell w) := by
  refine modDist ?_
  split
  · exact h
  · exact h.modPair

theorem endAbandoned {w : Work} : Apart s (t.endAbandoned w) := by
  unfold State.endAbandoned
  (repeat' split)
  · exact h.giveUpCell.modPair.modDist
  · exact h.giveUpCell.modPair

theorem abandonWork {w : Work} : Apart s (t.abandonWork w) := by
  unfold State.abandonWork
  split
  · exact h.modDist
  · exact h.endAbandoned

theorem recheckWork : Apart s t.recheckWork := by
  unfold State.recheckWork
  (repeat' split)
  · exact h
  · exact h.abandonWork
  · exact h

theorem closeOnDeparture {p : Pair} : Apart s (t.closeOnDeparture p) := by
  have cleared : Apart s (t.modPair p fun r => { r with horizon := none }) := h.modPair
  unfold State.closeOnDeparture
  simp only []
  split
  · exact cleared
  · exact cleared.aside (Aside.refl _).close.settle ((State.watched_settle _).trans (State.watched_close _))

theorem changeState {p : Pair} {new : PairState} {reason : Reason} : Apart s (t.changeState p new reason) := by
  unfold State.changeState
  simp only []
  split
  · exact h.modPair
  · have changed : Apart s ((t.modPair p fun r =>
        (({ r with state := new, reason := reason }).statusOver (t.pair p).state new
          (t.now + t.prof.active.statusInterval)).bump .stateChange 1).raise .pairChange) := by
      refine raise (h.modPair fun r => ?_)
      unfold PairRec.statusOver
      (repeat' split) <;> rfl
    refine recheckWork ?_
    split
    · exact changed.modPair.closeOnDeparture
    · exact changed

theorem forgetLearned {p : Pair} : Apart s (t.forgetLearned p) :=
  h.modPair fun r => by
    obtain ⟨l, e⟩ := r.forgetLearned_lane
    rw [e]

theorem enterDown {p : Pair} {cause : Reason} {failed : Bool} : Apart s (t.enterDown p cause failed) := by
  unfold State.enterDown
  simp only []
  split
  · exact h.changeState.modPair.forgetLearned
  · exact h.changeState.modPair

theorem hold {p : Pair} : Apart s (t.hold p) := h.changeState.modPair

theorem checkCells {p : Pair} : Apart s (t.checkCells p) := by
  unfold State.checkCells
  simp only []
  (repeat' split)
  · exact h.enterDown
  · exact h.enterDown
  · exact h.modPair
  · exact h
  · exact h.modPair
  · exact h

/-- The surge stop's view is the Pair Supervisor's. -/
theorem sup {x : Supervisor} : Apart s { t with sup := x } := h.trans ⟨rfl, rfl, rfl, rfl, fun _ => rfl, fun _ _ => rfl⟩

theorem stopEntry : Apart s t.stopEntry := by
  refine h.sup.trans (Apart.forPairs _ (fun u p => ?_) _)
  split
  · exact .refl u
  · exact (refl u).hold

theorem stopEnd : Apart s t.stopEnd := by
  refine h.sup.trans (Apart.forPairs _ (fun u p => ?_) _)
  split
  · exact (refl u).enterDown
  · exact .refl u

end Apart

/-! ## A target taken into use (R138, R139) -/

/-- An operation made for each pair gives each pair its value, where it gives it to its own pair and leaves the others. -/
theorem State.forPairs_each {α : Type} (s : State) (f : State → Pair → State) (get : PairRec → α) (val : Pair → α)
    (each : ∀ u p q, get ((f u p).pair q) = if q = p then val p else get (u.pair q)) (q : Pair) :
    get ((s.forPairs f).pair q) = val q := by
  have some_ : ∀ (l : List Pair) (u : State), get ((l.foldl f u).pair q) = if q ∈ l then val q else get (u.pair q) := by
    intro l
    induction l with
    | nil => exact fun u => by simp
    | cons p ps ih =>
      intro u
      rw [List.foldl_cons, ih, each]
      by_cases later : q ∈ ps
      · simp [later]
      · by_cases now : q = p
        · simp [now]
        · simp [now, later]
  have all : ∀ q : Pair, q ∈ allPairs := by decide
  rw [State.forPairs, some_, if_pos (all q)]

theorem State.pairs_forPairs (s : State) (f : State → Pair → State) (each : ∀ u p, (f u p).pairs = u.pairs) :
    (s.forPairs f).pairs = s.pairs := by
  suffices some_ : ∀ (l : List Pair) (u : State), (l.foldl f u).pairs = u.pairs from some_ allPairs s
  intro l
  induction l with
  | nil => exact fun _ => rfl
  | cons p ps ih => exact fun u => (ih (f u p)).trans (each u p)

/-- A change of the pairs and of the Pointer Writer's list alone. -/
def Reposted (s t : State) : Prop := ∃ pairs l, t = ({ s with pairs := pairs } : State).setPointer l

theorem Reposted.refl (s : State) : Reposted s s := ⟨s.pairs, s.path.pointer, rfl⟩

theorem Reposted.trans {s t u : State} (h : Reposted s t) (g : Reposted t u) : Reposted s u := by
  obtain ⟨v, l, first⟩ := h
  obtain ⟨w, m, second⟩ := g
  exact ⟨w, m, by rw [second, first]; rfl⟩

theorem Reposted.forPairs (f : State → Pair → State) (each : ∀ u p, Reposted u (f u p)) (s : State) : Reposted s (s.forPairs f) := by
  suffices some_ : ∀ (l : List Pair) (u : State), Reposted u (l.foldl f u) from some_ allPairs s
  intro l
  induction l with
  | nil => exact Reposted.refl
  | cons p ps ih => exact fun u => (each u p).trans (ih (f u p))

theorem State.postWord_reposted (s : State) (o : Nat) (w : Word) : Reposted s (s.postWord o w) :=
  let ⟨l, e⟩ := s.postWord_eq o w
  ⟨s.pairs, l, e⟩

theorem State.postTxCounts_reposted (s : State) (p : Pair) : Reposted s (s.postTxCounts p) :=
  (s.postWord_reposted _ _).trans (State.postWord_reposted _ _ _)

theorem State.postTxCounts_pairs (s : State) (p : Pair) : (s.postTxCounts p).pairs = s.pairs := by simp [State.postTxCounts]

theorem State.modPair_reposted (s : State) (p : Pair) (f : PairRec → PairRec) : Reposted s (s.modPair p f) :=
  ⟨(s.modPair p f).pairs, s.path.pointer, rfl⟩

theorem State.reallocate_reposted (s : State) (p : Pair) (a : Alloc) : Reposted s (s.reallocate p a) := by
  unfold State.reallocate
  split
  · exact .refl s
  · exact (s.modPair_reposted p _).trans (State.postTxCounts_reposted _ p)

/-- A pair's new allocation is its own. -/
theorem State.reallocate_alloc (s : State) (p q : Pair) (a : Alloc) :
    ((s.reallocate p a).pair q).alloc = if q = p then a else (s.pair q).alloc := by
  by_cases same : (s.pair p).alloc = a
  · have kept : s.reallocate p a = s := if_pos same
    rw [kept]
    split
    · next e => rw [e, same]
    · rfl
  · have moved : (s.reallocate p a).pairs = _ := (congrArg State.pairs (if_neg same)).trans (State.postTxCounts_pairs _ p)
    rw [State.pair_congr moved, State.pair_modPair]
    split
    · rfl
    · rfl

/-- A target installed: its allocations, base and size, and one count of RECOMPUTE. -/
theorem State.installTarget_spec (s : State) (g : AllocTarget) :
    (∀ p : Pair, ((s.installTarget g).pair p).alloc = g.allocs[p.val]) ∧ (s.installTarget g).subm = s.subm ∧
      (s.installTarget g).dist = { s.dist with poolBase := g.poolBase, poolSize := g.poolSize, target := none } ∧
      (s.installTarget g).count .recompute = satAdd32 (s.count .recompute) 1 := by
  generalize moves : (s.forPairs fun u p => u.reallocate p g.allocs[p.val]) = moved
  have allocs (p : Pair) : (moved.pair p).alloc = g.allocs[p.val] := by
    rw [← moves]
    exact s.forPairs_each _ PairRec.alloc (fun p => g.allocs[p.val]) (fun u p q => u.reallocate_alloc p q _) p
  have reposted : Reposted s moved := by
    rw [← moves]
    exact Reposted.forPairs _ (fun u p => u.reallocate_reposted p _) s
  generalize records : (moved.modDist fun d => { d with poolBase := g.poolBase, poolSize := g.poolSize, target := none }) = recorded
  have installed : s.installTarget g = (recorded.forPairs State.postAlloc).bump .recompute := by
    rw [← records, ← moves]
    rfl
  obtain ⟨v, l, posted⟩ := Reposted.forPairs State.postAlloc (fun u p => u.postWord_reposted _ _) recorded
  have pairs : (recorded.forPairs State.postAlloc).pairs = recorded.pairs :=
    State.pairs_forPairs _ _ fun u p => u.postWord_pairs _ _
  obtain ⟨w, m, changed⟩ := reposted
  refine ⟨fun p => ?_, ?_, ?_, ?_⟩
  · rw [installed, ← allocs p, State.pair_congr ((State.bump_pairs _ _ _).trans pairs), ← records]
    rfl
  · rw [installed, posted, ← records, changed]
    rfl
  · rw [installed, posted, ← records, changed]
    rfl
  · rw [installed, State.count_bump_self, posted, ← records, changed]
    rfl

/-! ## The surge stop (R180, R189 to R192) -/

/-- A stop that stays as it is: nothing is told. -/
theorem State.recomputeStop_same (s : State) (same : (s.surge.flag && s.prof.active.surgeEnable) = s.surge.stop) :
    s.recomputeStop = s := if_pos same

/-- The state with the stop as given. -/
def State.withStop (s : State) (b : Bool) : State := { s with surge := { s.surge with stop := b } }

theorem State.recomputeStop_enters (s : State) (inForce : (s.surge.flag && s.prof.active.surgeEnable) = true)
    (before : s.surge.stop = false) :
    s.recomputeStop = ((s.withStop true).bump .stopEntry).stopEntry := by
  unfold State.recomputeStop
  rw [inForce, before]
  rfl

theorem State.recomputeStop_ends (s : State) (inForce : (s.surge.flag && s.prof.active.surgeEnable) = false)
    (before : s.surge.stop = true) :
    s.recomputeStop = (s.withStop false).stopEnd := by
  unfold State.recomputeStop
  rw [inForce, before]
  rfl

/-- What every recompute of the stop leaves, and where the stop stands after it. -/
theorem State.recomputeStop_spec (s : State) :
    s.recomputeStop.surge = { s.surge with stop := s.surge.flag && s.prof.active.surgeEnable } ∧
      s.recomputeStop.prof = s.prof ∧ s.recomputeStop.subm = s.subm ∧
      ∀ c, c ∉ headCounters → c ≠ .stopEntry → s.recomputeStop.count c = s.count c := by
  cases inForce : (s.surge.flag && s.prof.active.surgeEnable) with
  | true =>
    cases before : s.surge.stop with
    | true =>
      rw [s.recomputeStop_same (inForce.trans before.symm), ← before]
      exact ⟨rfl, rfl, rfl, fun _ _ _ => rfl⟩
    | false =>
      rw [s.recomputeStop_enters inForce before]
      have moved := State.stopEntry_moves ((s.withStop true).bump .stopEntry)
      have apart := (Apart.refl ((s.withStop true).bump .stopEntry)).stopEntry
      exact ⟨moved.surge, moved.prof, apart.subm, fun c head entry =>
        (apart.counts c head).trans (State.count_bump_ne _ _ _ _ entry)⟩
  | false =>
    cases before : s.surge.stop with
    | true =>
      rw [s.recomputeStop_ends inForce before]
      have moved := State.stopEnd_moves (s.withStop false)
      have apart := (Apart.refl (s.withStop false)).stopEnd
      exact ⟨moved.surge, moved.prof, apart.subm, fun c head _ => apart.counts c head⟩
    | false =>
      rw [s.recomputeStop_same (inForce.trans before.symm), ← before]
      exact ⟨rfl, rfl, rfl, fun _ _ _ => rfl⟩

/-- Once the stop has come into force, every pair is OUT or HELD (R180). -/
theorem State.stopEntry_states (s v : State) (same : s.pairs = v.pairs) (p : Pair) :
    (s.stopEntry.pair p).state = if (v.pair p).state = .out then .out else .held := by
  have moved : (s.stopEntry.pair p).state = (s.pair p).state.underStop := s.stopEntry_moves.state p
  rw [moved, State.pair_congr same p]
  unfold PairState.underStop
  cases (v.pair p).state <;> rfl

/-- The level and the flag of a falling edge (R189). -/
def State.fallen (s : State) : State := { s with pins := { s.pins with surgeN := false }, surge := { s.surge with flag := true } }

/-- The falling edge's latch, before the stop is recomputed (R189). -/
def State.latch (s : State) : State := (s.fallen.raise .surge).bump .surgeEdge

theorem exec_surgeFallingEdge (s : State) (up : s.pins.resetN = true) (high : s.pins.surgeN = true) :
    exec .surgeFallingEdge s = .next s.latch.recomputeStop := by
  have falls : s.surgeFall = State.whenUp { s with pins := { s.pins with surgeN := false } } State.surgeLatch := if_pos high
  calc exec .surgeFallingEdge s = .next s.surgeFall := rfl
    _ = _ := congrArg _ (falls.trans (State.whenUp_high _ _ up))

/-- The flag cleared by an accepted acknowledge, before the stop is recomputed (R192). -/
def State.acknowledged (s : State) : State := { (s.bump .ackAccepted) with surge := { s.surge with flag := false } }

theorem State.acknowledge_accepted (s : State) (flag : s.surge.flag = true) (high : s.pins.surgeN = true) :
    s.acknowledge = s.acknowledged.recomputeStop := (if_pos flag).trans (if_pos high)

end Sys2Proof.Machine

namespace Sys2Proof.Proofs
open Sys2Proof.Machine

/-- Settles O41: the target's allocations are installed, and what follows the installation leaves them. -/
theorem recomputeTakenIntoUse : Obligations.RecomputeTakenIntoUse := by
  intro s g up pending
  have row : exec .recomputeTakeIntoUse s = .next (if s.targetReady then s.takeTarget g else s) := by
    refine congrArg _ ((s.whenUp_high _ up).trans ?_)
    unfold State.takePending
    rw [pending]
  refine ⟨fun ready => ?_, fun notReady => ?_⟩
  · obtain ⟨allocs, subm, dist, count⟩ := s.installTarget_spec g
    have apart : Apart (s.installTarget g) (s.takeTarget g) :=
      (Apart.forPairs State.checkCells (fun u p => (Apart.refl u).checkCells) _).recheckWork
    have kept : Keeps s (s.takeTarget g) := (Keeps.refl s).takeTarget
    refine ⟨s.takeTarget g, row.trans (congrArg _ (if_pos ready)), fun p => (apart.alloc p).trans (allocs p), ?_, ?_, ?_, ?_, kept.prof,
      apart.subm.trans subm⟩
    · rw [apart.target, dist]
    · rw [apart.poolBase, dist]
    · rw [apart.poolSize, dist]
    · rw [apart.counts _ (by decide), count]
  · exact row.trans (congrArg _ (if_neg (notReady.symm ▸ Bool.false_ne_true)))

/-- Settles O49. -/
theorem surgeEdges : Obligations.SurgeEdges := by
  refine fun s => ⟨fun up high => ?_, rfl⟩
  have told : Told s.latch s.latch.recomputeStop := (Told.refl _).recomputeStop
  obtain ⟨surge, prof, subm, counts⟩ := s.latch.recomputeStop_spec
  have latchProf : s.latch.prof = s.prof := State.raise_prof _ _
  have latchSurge : s.latch.surge = { s.surge with flag := true } := State.raise_surge _ _
  have latchPairs : s.latch.pairs = s.pairs := State.raise_pairs _ _
  have latchSup : s.latch.sup = s.sup := State.raise_sup _ _
  have flag : s.latch.surge.flag = true := by rw [latchSurge]
  have stop : s.latch.surge.stop = s.surge.stop := by rw [latchSurge]
  have enable : (s.latch.surge.flag && s.latch.prof.active.surgeEnable) = s.prof.active.surgeEnable := by
    rw [flag, latchProf, Bool.true_and]
  refine ⟨_, exec_surgeFallingEdge s up high, ?_, ?_, ?_, ?_, ?_, prof.trans latchProf, subm.trans (State.raise_subm _ _), ?_, ?_, ?_⟩
  · exact told.surgeN.trans (congrArg Pins.surgeN (State.postEventWord_pins _))
  · rw [surge]
    exact flag
  · rw [surge]
    exact enable
  · refine told.events _ ?_
    rw [show s.latch.rep = (s.fallen.raise .surge).rep from rfl, State.raise_events, BitVec.getLsbD_or, Event.mask_bit, Bool.or_true]
  · rw [counts _ (by decide) (by decide)]
    exact (State.count_bump_self _ _ _).trans (congrArg (satAdd32 · 1) (State.count_congr (State.raise_counters _ _) _))
  · exact told.clock.trans (State.raise_clock _ _)
  · intro enabled unforced
    rw [s.latch.recomputeStop_enters (enable.trans enabled) (stop.trans unforced)]
    exact ⟨(State.stopEntry_moves _).view, State.stopEntry_states ((s.latch.withStop true).bump .stopEntry) s latchPairs⟩
  · intro same
    rw [s.latch.recomputeStop_same (enable.trans (same.trans stop.symm))]
    exact ⟨latchPairs, latchSup⟩

/-- Settles O50. -/
theorem acknowledgeJudged : Obligations.AcknowledgeJudged := by
  intro s
  refine ⟨fun idle => ?_, fun flag low => ?_, fun flag high => ?_⟩
  · exact if_neg (idle.symm ▸ Bool.false_ne_true)
  · exact (if_pos flag).trans (if_neg (low.symm ▸ Bool.false_ne_true))
  · obtain ⟨surge, -, -, counts⟩ := s.acknowledged.recomputeStop_spec
    have off : (s.acknowledged.surge.flag && s.acknowledged.prof.active.surgeEnable) = false := rfl
    rw [s.acknowledge_accepted flag high]
    refine ⟨surge, ?_, fun unforced => ?_, fun inForce => ?_⟩
    · rw [counts _ (by decide) (by decide)]
      exact State.count_bump_self s .ackAccepted 1
    · have same : ({ s.surge with flag := false } : Surge) = { flag := false, stop := false } := by rw [← unforced]
      rw [s.acknowledged.recomputeStop_same (off.trans unforced.symm), ← same]
      rfl
    · rw [s.acknowledged.recomputeStop_ends off inForce]
      have moved := State.stopEnd_moves (s.acknowledged.withStop false)
      refine ⟨moved.view, fun p => (moved.state p).trans ?_⟩
      rfl

end Sys2Proof.Proofs
end

section
/-! The pairs' deadlines and the drained pair's start: the record each entry into a state leaves (R44, R142, R164 to R179). -/

-- Theorem by theorem: the check's thread stacks leave no memory for many proofs at once behind the slow tests.
set_option Elab.async false

namespace Sys2Proof.Machine

/-! ## What the supervised part of a record tells -/

/-- The counters in the supervised part of a record (R187). -/
def supervisorCounters : List PCounter :=
  [.stateChange, .activations, .provingFail, .silenceExpiry, .errorBurst, .pairLoss, .quarantineEntry, .badPeerState]

theorem PairRec.watch_counts (r : PairRec) : r.watch.counts = supervisorCounters.map r.count := rfl

theorem PairRec.count_of_counts {r x : PairRec} (h : r.watch.counts = x.watch.counts) (c : PCounter) (own : c ∈ supervisorCounters) :
    r.count c = x.count c := by
  rw [PairRec.watch_counts, PairRec.watch_counts] at h
  exact List.map_inj_left.1 h c own

theorem PairRec.horizon_of_watch {r x : PairRec} (h : r.watch = x.watch) (none_ : x.horizon = none) : r.horizon = none := by
  have absent : r.horizon.isSome = x.horizon.isSome := congrArg Watch.hasHorizon h
  rw [none_] at absent
  exact Option.isSome_eq_false_iff.1 absent |> Option.isNone_iff_eq_none.1

/-- A pair that comes to send STATUS has one due (R156). -/
theorem PairRec.changed_statusDue (r : PairRec) (new : PairState) (reason : Reason) (t : Time) (sends : new.sendsStatus = true)
    (silent : r.state.sendsStatus = false) : (r.changed new reason t).statusDue = true := by
  unfold PairRec.changed PairRec.statusOver
  simp only [sends, silent, Bool.not_false, Bool.and_self, if_true]
  split
  · rfl
  · rfl

/-- Whether forgetting a learned lane removes an entry depends on the entry alone. -/
theorem PairRec.forgetLearned_congr {r x : PairRec} (lane : r.lane = x.lane) : r.forgetLearned.lane = x.forgetLearned.lane := by
  unfold PairRec.forgetLearned
  rw [lane]
  (repeat' split)
  · rfl
  · exact lane
  · exact lane

/-! ## Entry into DOWN (R168) -/

/-- The record an entry into DOWN leaves from another state, its lane apart. -/
theorem State.enterDown_record (s : State) (p : Pair) (cause : Reason) (failed : Bool) (h : (s.pair p).state ≠ .down) :
    let r := s.pair p
    let y := (s.enterDown p cause failed).pair p
    y.state = .down ∧ y.reason = (if r.alloc.count = 0 then Reason.noCells else cause) ∧ y.silence = none ∧ y.entered = none ∧
      y.deadline = (if failed then some (s.now + s.prof.active.retryHoldoff) else none) ∧ y.recentErrors = r.recentErrors ∧
      y.proving = r.proving ∧ y.flaps = r.flaps ∧ y.factor = r.factor ∧
      (r.state.sendsStatus = false → y.statusDue = true) ∧
      ∀ c ∈ supervisorCounters, y.count c = if c = .stateChange then satAdd32 (r.count c) 1 else r.count c := by
  intro r y
  obtain ⟨l, watch⟩ := s.watch_enterDown p cause failed h
  obtain ⟨state, reason, -, -, -, errors, proving, flaps, factor, -, -, -⟩ :=
    r.changed_fields .down (if r.alloc.count = 0 then Reason.noCells else cause) (s.now + s.prof.active.statusInterval)
  refine ⟨(congrArg Watch.state watch).trans state, (congrArg Watch.reason watch).trans reason, congrArg Watch.silence watch,
    congrArg Watch.entered watch, congrArg Watch.deadline watch, (congrArg Watch.recentErrors watch).trans errors,
    (congrArg Watch.proving watch).trans proving, (congrArg Watch.flaps watch).trans flaps,
    (congrArg Watch.factor watch).trans factor,
    fun silent => (congrArg Watch.statusDue watch).trans (r.changed_statusDue _ _ _ rfl silent), fun c own => ?_⟩
  rw [← r.changed_count .down (if r.alloc.count = 0 then Reason.noCells else cause) (s.now + s.prof.active.statusInterval) c]
  have counts := congrArg Watch.counts watch
  exact PairRec.count_of_counts
    (x := r.changed .down (if r.alloc.count = 0 then Reason.noCells else cause) (s.now + s.prof.active.statusInterval)) counts c own

/-- From LOST, QUARANTINE or HELD, and from a failed PROVING, a learned lane is forgotten (R168). -/
theorem State.enterDown_lane (s : State) (p : Pair) (cause : Reason) (failed : Bool) (h : (s.pair p).state ≠ .down)
    (forgets : (failed || (s.pair p).state == .lost || (s.pair p).state == .quarantine || (s.pair p).state == .held) = true) :
    ((s.enterDown p cause failed).pair p).lane = ((s.pair p).forgetLearned).lane := by
  have lane (reason : Reason) : ((s.changeState p .down reason).pair p).lane = (s.pair p).lane := by
    obtain ⟨-, -, -, -, -, -, -, -, -, kept, -, -⟩ :=
      (s.pair p).changed_fields .down reason (s.now + s.prof.active.statusInterval)
    exact (congrArg Watch.lane (s.watch_changeState_self p .down reason h)).trans kept
  unfold State.enterDown
  simp only []
  rw [if_pos forgets, State.forgetLearned, State.pair_modPair_self, State.pair_modPair_self]
  exact PairRec.forgetLearned_congr (lane _)

/-- An entry into DOWN changes beside its change of state the pair's own record. -/
theorem State.enterDown_other (s : State) (p q : Pair) (cause : Reason) (failed : Bool) (other : q ≠ p) :
    ((s.enterDown p cause failed).pair q).watch = (s.pair q).watch := by
  unfold State.enterDown
  simp only []
  split
  · rw [State.forgetLearned, State.pair_modPair_ne _ _ _ _ other, State.pair_modPair_ne _ _ _ _ other,
      State.watch_changeState_other _ _ _ _ _ other]
  · rw [State.pair_modPair_ne _ _ _ _ other, State.watch_changeState_other _ _ _ _ _ other]

/-! ## A change of state from a state other than ACTIVE (R165) -/

theorem State.giveUpCell_frame (s : State) (w : Work) : ∃ pairs dist, s.giveUpCell w = { s with pairs := pairs, dist := dist } := by
  unfold State.giveUpCell
  split
  · exact ⟨_, _, rfl⟩
  · exact ⟨_, _, rfl⟩

theorem State.endAbandoned_frame (s : State) (w : Work) :
    ∃ pairs dist, s.endAbandoned w = { s with pairs := pairs, dist := dist } := by
  obtain ⟨pairs, dist, given⟩ := s.giveUpCell_frame w
  unfold State.endAbandoned
  simp only [given]
  split
  · exact ⟨_, _, rfl⟩
  · exact ⟨_, _, rfl⟩

/-- The recheck of the Copier's work changes the pairs and the Distributor at most (R152). -/
theorem State.recheckWork_frame (s : State) : ∃ pairs dist, s.recheckWork = { s with pairs := pairs, dist := dist } := by
  unfold State.recheckWork State.abandonWork
  (repeat' split)
  · exact ⟨s.pairs, s.dist, rfl⟩
  · exact ⟨s.pairs, _, rfl⟩
  · exact s.endAbandoned_frame _
  · exact ⟨s.pairs, s.dist, rfl⟩

/-- The pair's record and the event of a change of state, before the departure from ACTIVE and the recheck (R165). -/
def State.changing (s : State) (p : Pair) (new : PairState) (reason : Reason) : State :=
  (s.modPair p fun r =>
    (({ r with state := new, reason := reason }).statusOver (s.pair p).state new (s.now + s.prof.active.statusInterval)).bump
      .stateChange 1).raise .pairChange

theorem State.changeState_inactive (s : State) (p : Pair) (new : PairState) (reason : Reason) (inactive : (s.pair p).state ≠ .active)
    (differs : (s.pair p).state ≠ new) : s.changeState p new reason = (s.changing p new reason).recheckWork := by
  unfold State.changeState
  simp only [if_neg differs, if_neg inactive] <;> rfl

/-- What a change of state leaves that is no departure from ACTIVE: the Resequencer, the Delivery Unit and the Submission Unit. -/
theorem State.changeState_frame (s : State) (p : Pair) (new : PairState) (reason : Reason) (inactive : (s.pair p).state ≠ .active)
    (differs : (s.pair p).state ≠ new) :
    ∃ pairs dist path pins rep, s.changeState p new reason =
      { s with pairs := pairs, dist := dist, path := path, pins := pins, rep := rep } := by
  obtain ⟨path, pins, rep, raised⟩ := (s.modPair p fun r =>
    (({ r with state := new, reason := reason }).statusOver (s.pair p).state new (s.now + s.prof.active.statusInterval)).bump
      .stateChange 1).raise_frame .pairChange
  obtain ⟨pairs, dist, rechecked⟩ := (s.changing p new reason).recheckWork_frame
  rw [s.changeState_inactive p new reason inactive differs, rechecked, State.changing, raised]
  exact ⟨pairs, dist, path, pins, rep, rfl⟩

theorem State.enterDown_frame (s : State) (p : Pair) (cause : Reason) (failed : Bool) (inactive : (s.pair p).state ≠ .active)
    (differs : (s.pair p).state ≠ .down) :
    ∃ pairs dist path pins rep, s.enterDown p cause failed =
      { s with pairs := pairs, dist := dist, path := path, pins := pins, rep := rep } := by
  obtain ⟨pairs, dist, path, pins, rep, changed⟩ :=
    s.changeState_frame p .down (if (s.pair p).alloc.count = 0 then .noCells else cause) inactive differs
  unfold State.enterDown
  simp only []
  rw [changed]
  split
  · exact ⟨_, dist, path, pins, rep, rfl⟩
  · exact ⟨_, dist, path, pins, rep, rfl⟩

theorem State.hold_frame (s : State) (p : Pair) (inactive : (s.pair p).state ≠ .active) (differs : (s.pair p).state ≠ .held) :
    ∃ pairs dist path pins rep, s.hold p =
      { s with pairs := pairs, dist := dist, path := path, pins := pins, rep := rep } := by
  obtain ⟨pairs, dist, path, pins, rep, changed⟩ := s.changeState_frame p .held .none inactive differs
  unfold State.hold
  rw [changed]
  exact ⟨_, dist, path, pins, rep, rfl⟩

/-- A change of state has raised PAIR_CHANGE. -/
theorem State.changeState_raises (s : State) (p : Pair) (new : PairState) (reason : Reason) (inactive : (s.pair p).state ≠ .active)
    (differs : (s.pair p).state ≠ new) :
    (s.changeState p new reason).rep.events.getLsbD Event.pairChange.bit.val = true := by
  obtain ⟨pairs, dist, rechecked⟩ := (s.changing p new reason).recheckWork_frame
  rw [s.changeState_inactive p new reason inactive differs, rechecked]
  exact (congrArg (fun x : Half => x.getLsbD Event.pairChange.bit.val) (State.raise_events _ _)).trans
    (by rw [BitVec.getLsbD_or, Event.mask_bit, Bool.or_true])

theorem State.enterDown_raises (s : State) (p : Pair) (cause : Reason) (failed : Bool) (inactive : (s.pair p).state ≠ .active)
    (differs : (s.pair p).state ≠ .down) :
    (s.enterDown p cause failed).rep.events.getLsbD Event.pairChange.bit.val = true := by
  have raised := s.changeState_raises p .down (if (s.pair p).alloc.count = 0 then .noCells else cause) inactive differs
  unfold State.enterDown
  simp only []
  split
  · exact raised
  · exact raised

/-! ## Entry into ACTIVE and the loss of a pair (R173, R176 to R179) -/

/-- The record a change of state leaves the pair that changes, in its supervised part. -/
theorem State.changeState_record (s : State) (p : Pair) (new : PairState) (reason : Reason) (differs : (s.pair p).state ≠ new) :
    let r := s.pair p
    let y := (s.changeState p new reason).pair p
    y.state = new ∧ y.reason = reason ∧ y.silence = r.silence ∧ y.flaps = r.flaps ∧ y.factor = r.factor ∧
      (r.state = .active → y.credit = 0 ∧ y.horizon = none) ∧
      ∀ c ∈ supervisorCounters, y.count c = if c = .stateChange then satAdd32 (r.count c) 1 else r.count c := by
  intro r y
  have watch := s.watch_changeState_self p new reason differs
  obtain ⟨state, reason_, silence, -, -, -, -, flaps, factor, -, -, departs⟩ :=
    r.changed_fields new reason (s.now + s.prof.active.statusInterval)
  refine ⟨(congrArg Watch.state watch).trans state, (congrArg Watch.reason watch).trans reason_,
    (congrArg Watch.silence watch).trans silence, (congrArg Watch.flaps watch).trans flaps,
    (congrArg Watch.factor watch).trans factor, fun active => ?_, fun c own => ?_⟩
  · obtain ⟨credit, horizon⟩ := departs active
    exact ⟨(congrArg Watch.credit watch).trans credit, PairRec.horizon_of_watch watch horizon⟩
  · rw [← r.changed_count new reason (s.now + s.prof.active.statusInterval) c]
    exact PairRec.count_of_counts (congrArg Watch.counts watch) c own

/-- The record an entry into ACTIVE leaves. -/
theorem State.enterActive_record (s : State) (p : Pair) (differs : (s.pair p).state ≠ .active) :
    let r := s.pair p
    let y := (s.enterActive p).pair p
    y.state = .active ∧ y.reason = .none ∧ y.proving.outcome = .pass ∧ y.entered = some s.now ∧ y.silence = r.silence ∧
      y.count .activations = satAdd32 (r.count .activations) 1 := by
  intro r y
  obtain ⟨state, reason, silence, -, -, -, counts⟩ := s.changeState_record p .active .none differs
  have record : y = ({ (((s.changeState p .active .none).pair p).withOutcome .pass) with entered := some s.now, deadline := none }).bump
      .activations 1 := State.pair_modPair_self _ _ _
  rw [record]
  refine ⟨state, reason, rfl, rfl, silence, (PairRec.count_bump_self _ _ _).trans (congrArg (satAdd32 · 1) ?_)⟩
  exact counts .activations (by decide)

/-- The record the loss of a pair leaves, by whether its flap history is full. -/
theorem State.lose_record (s : State) (p : Pair) (active : (s.pair p).state = .active) :
    let r := s.pair p
    let y := (s.lose p).pair p
    let flaps := pushFlap r.flaps s.now
    y.silence = none ∧ y.entered = none ∧ y.credit = 0 ∧ y.horizon = none ∧
      (flapsFull flaps s.prof.active.flapWindow = false →
        y.state = .lost ∧ y.flaps = flaps ∧ y.deadline = some (s.now + s.prof.active.lossHoldoff)) ∧
      (flapsFull flaps s.prof.active.flapWindow = true →
        y.state = .quarantine ∧ y.flaps = [] ∧ y.factor = min 4 (r.factor + 1) ∧
          y.deadline = some (s.now + penalty s.prof.active.quarantineBase r.factor)) := by
  intro r y flaps
  have counted : (s.bumpPair p .pairLoss).pair p = r.bump .pairLoss 1 := State.pair_modPair_self _ _ _
  have active_ : ((s.bumpPair p .pairLoss).pair p).state = .active := by
    rw [counted]
    exact active
  cases full : flapsFull flaps s.prof.active.flapWindow with
  | false =>
    obtain ⟨state, -, -, -, -, departs, -⟩ := (s.bumpPair p .pairLoss).changeState_record p .lost .none (by rw [active_]; decide)
    obtain ⟨credit, horizon⟩ := departs active_
    have lost : s.lose p = ((s.bumpPair p .pairLoss).changeState p .lost .none).modPair p fun r =>
        { r with silence := none, entered := none, flaps := flaps, deadline := some (s.now + s.prof.active.lossHoldoff) } :=
      if_neg (full.symm ▸ Bool.false_ne_true)
    have record : y = { ((s.bumpPair p .pairLoss).changeState p .lost .none).pair p with
        silence := none, entered := none, flaps := flaps, deadline := some (s.now + s.prof.active.lossHoldoff) } :=
      (congrArg (State.pair · p) lost).trans (State.pair_modPair_self _ _ _)
    rw [record]
    exact ⟨rfl, rfl, credit, horizon, fun _ => ⟨state, rfl, rfl⟩, fun h => absurd h Bool.false_ne_true⟩
  | true =>
    obtain ⟨state, -, -, -, factor, departs, -⟩ :=
      (s.bumpPair p .pairLoss).changeState_record p .quarantine .none (by rw [active_]; decide)
    obtain ⟨credit, horizon⟩ := departs active_
    rw [counted] at factor
    have quarantined : s.lose p = (((s.bumpPair p .pairLoss).changeState p .quarantine .none).modPair p fun r =>
        ({ r with silence := none, entered := none, flaps := [], factor := min 4 (r.factor + 1),
                  deadline := some (s.now + penalty s.prof.active.quarantineBase r.factor) }).bump .quarantineEntry 1).raise
          .pairQuarantine := if_pos full
    generalize changed : ((s.bumpPair p .pairLoss).changeState p .quarantine .none) = u at state factor credit horizon quarantined
    have record : y = ({ u.pair p with
        silence := none, entered := none, flaps := [], factor := min 4 ((u.pair p).factor + 1)
        deadline := some (s.now + penalty s.prof.active.quarantineBase (u.pair p).factor) } : PairRec).bump .quarantineEntry 1 :=
      (congrArg (State.pair · p) quarantined).trans
        ((State.pair_congr (State.raise_pairs _ _) p).trans (State.pair_modPair_self _ _ _))
    have base : (u.pair p).factor = r.factor := factor
    rw [record]
    refine ⟨rfl, rfl, credit, horizon, fun h => absurd h (by decide), fun _ => ⟨state, rfl, ?_, ?_⟩⟩
    · exact congrArg (fun n => min 4 (n + 1)) base
    · exact congrArg (fun n => some (s.now + penalty s.prof.active.quarantineBase n)) base

/-! ## The drained pair's start (R44, R142, R167) -/

/-- The landing ring and the transmit cells of a Pair Record. -/
structure Rings where
  landed   : Half
  released : Half
  cells    : List Cell
  fill     : Half
  produced : Half
  consumed : Half
  alloc    : Alloc

def PairRec.rings (r : PairRec) : Rings :=
  { landed := r.landed, released := r.released, cells := r.cells, fill := r.fill, produced := r.produced, consumed := r.consumed,
    alloc := r.alloc }

/-- Work on a pair that a start has left behind: its cell is not given up again (R142). -/
def State.detachedOn (s : State) (p : Pair) : Prop := ∀ w, s.dist.copier = some w → w.pair = p → w.detached = true

theorem State.endAbandoned_rings (s : State) (w : Work) (p : Pair) (left : w.pair = p → w.detached = true) :
    ((s.endAbandoned w).pair p).rings = (s.pair p).rings := by
  have given : ((s.giveUpCell w).pair p).rings = (s.pair p).rings := by
    cases detached : w.detached with
    | true =>
      unfold State.giveUpCell
      rw [detached]
      rfl
    | false =>
      have other : p ≠ w.pair := fun e => Bool.false_ne_true (detached.symm.trans (left e.symm))
      have given : s.giveUpCell w = (s.modPair w.pair fun r => { r with fill := r.fill - 1 }).modDist fun d =>
          { d with copier := none } := by
        unfold State.giveUpCell
        rw [detached]
        rfl
      rw [given]
      exact congrArg PairRec.rings (s.pair_modPair_ne w.pair p (fun r => { r with fill := r.fill - 1 }) other)
  have counted : (((s.giveUpCell w).bumpPair w.pair .abandoned).pair p).rings = ((s.giveUpCell w).pair p).rings := by
    rw [State.bumpPair, State.pair_modPair]
    split
    · next e => rw [e]; rfl
    · rfl
  unfold State.endAbandoned
  simp only []
  split
  · exact counted.trans given
  · exact counted.trans given

theorem State.recheckWork_rings (s : State) (p : Pair) (left : s.detachedOn p) : (s.recheckWork.pair p).rings = (s.pair p).rings := by
  cases working : s.dist.copier with
  | none =>
    unfold State.recheckWork
    rw [working]
  | some w =>
    unfold State.recheckWork State.abandonWork
    simp only [working]
    (repeat' split)
    · rfl
    · rfl
    · exact s.endAbandoned_rings w p (left w working)

theorem State.changing_rings (s : State) (p : Pair) (new : PairState) (reason : Reason) :
    ((s.changing p new reason).pair p).rings = (s.pair p).rings := by
  have rings (r : PairRec) (old : PairState) (t : Time) : (r.statusOver old new t).rings = r.rings := by
    unfold PairRec.statusOver
    (repeat' split) <;> rfl
  rw [State.changing, State.pair_congr (State.raise_pairs _ _), State.pair_modPair_self]
  exact rings _ _ _

/-- A pair that starts, from its landing and its transmit side, before it enters a state (R44, R142). -/
def State.starting (s : State) (p : Pair) : State := ((s.modPair p fun r => { r with drained := false }).landingStart p).transmitStart p

theorem State.startPair_eq (s : State) (p : Pair) :
    s.startPair p = if (s.starting p).sup.stopView then (s.starting p).hold p else (s.starting p).enterDown p .none false := by
  unfold State.startPair State.starting
  rfl

theorem State.landingStart_pairs (s : State) (p : Pair) :
    (s.landingStart p).pairs = (s.modPair p fun r =>
      { r with landed := 0, released := 0, cells := List.replicate r.cells.length .free, cursor := .idle }).pairs := by
  unfold State.landingStart
  simp only []
  split
  · rfl
  · exact State.postCount_pairs _ _ _

theorem State.landingStart_reposted (s : State) (p : Pair) : Reposted s (s.landingStart p) := by
  unfold State.landingStart
  simp only []
  split
  · exact s.modPair_reposted p _
  · exact (s.modPair_reposted p _).trans (State.postWord_reposted _ _ _)

/-- Work in the Copier left behind by a pair's start (R142). -/
def Work.leftBehind (p : Pair) (w : Work) : Work := if w.pair = p then { w with detached := true } else w

theorem State.transmitStart_reposted (s : State) (p : Pair) :
    Reposted ((s.modPair p fun r => ({ r with fill := 0, produced := 0, consumed := 0 }).bump .givenUp r.publishedCells).modDist
      fun d => { d with copier := d.copier.map (Work.leftBehind p) }) (s.transmitStart p) :=
  (State.postTxCounts_reposted _ p).trans (State.postWord_reposted _ _ _)

theorem State.transmitStart_pairs (s : State) (p : Pair) :
    (s.transmitStart p).pairs =
      (s.modPair p fun r => ({ r with fill := 0, produced := 0, consumed := 0 }).bump .givenUp r.publishedCells).pairs :=
  (State.postWord_pairs _ _ _).trans (State.postTxCounts_pairs _ p)

/-- The record of a pair that starts: its counts are 0, its cells FREE (R44, R142). -/
theorem State.starting_pair (s : State) (p : Pair) :
    ∃ counters, (s.starting p).pair p =
      { s.pair p with
        drained := false, landed := 0, released := 0, cells := List.replicate (s.pair p).cells.length .free, cursor := .idle
        fill := 0, produced := 0, consumed := 0, counters := counters } := by
  have record := (State.pair_congr (State.transmitStart_pairs ((s.modPair p fun r => { r with drained := false }).landingStart p) p)
    p).trans (State.pair_modPair_self _ _ _)
  rw [State.pair_congr (State.landingStart_pairs (s.modPair p fun r => { r with drained := false }) p) p,
    State.pair_modPair_self, State.pair_modPair_self] at record
  exact ⟨_, record⟩

/-- A start leaves the Resequencer, the Delivery Unit and the Pair Supervisor's view, and leaves the Copier's work of the pair behind. -/
theorem State.starting_frame (s : State) (p : Pair) :
    (s.starting p).reseq = s.reseq ∧ (s.starting p).deliv = s.deliv ∧ (s.starting p).sup = s.sup ∧
      (s.starting p).dist.copier = s.dist.copier.map (Work.leftBehind p) := by
  obtain ⟨v, l, landing⟩ := (s.modPair p fun r => { r with drained := false }).landingStart_reposted p
  obtain ⟨w, m, transmit⟩ := State.transmitStart_reposted ((s.modPair p fun r => { r with drained := false }).landingStart p) p
  unfold State.starting
  rw [transmit, landing]
  exact ⟨rfl, rfl, rfl, rfl⟩

theorem State.starting_detached (s : State) (p : Pair) : (s.starting p).detachedOn p := by
  intro w working own
  obtain ⟨-, -, -, copier⟩ := s.starting_frame p
  rw [copier] at working
  obtain ⟨x, -, rfl⟩ := Option.map_eq_some_iff.1 working
  unfold Work.leftBehind at own ⊢
  split
  · rfl
  · next other => rw [if_neg other] at own; exact absurd own other

/-- What a change of state from OUT leaves of the pair's rings, its work left behind. -/
theorem State.changeState_rings (s : State) (p : Pair) (new : PairState) (reason : Reason) (inactive : (s.pair p).state ≠ .active)
    (differs : (s.pair p).state ≠ new) (left : s.detachedOn p) :
    ((s.changeState p new reason).pair p).rings = (s.pair p).rings := by
  have still : (s.changing p new reason).detachedOn p := by
    intro w working
    refine left w ?_
    rw [← working]
    have dist : (s.changing p new reason).dist = s.dist := State.raise_dist _ _
    rw [dist]
  rw [s.changeState_inactive p new reason inactive differs, State.recheckWork_rings _ p still, s.changing_rings]

theorem State.hold_rings (s : State) (p : Pair) (inactive : (s.pair p).state ≠ .active) (differs : (s.pair p).state ≠ .held)
    (left : s.detachedOn p) : ((s.hold p).pair p).rings = (s.pair p).rings := by
  rw [State.hold, State.pair_modPair_self]
  exact s.changeState_rings p .held .none inactive differs left

theorem State.enterDown_rings (s : State) (p : Pair) (cause : Reason) (failed : Bool) (inactive : (s.pair p).state ≠ .active)
    (differs : (s.pair p).state ≠ .down) (left : s.detachedOn p) :
    ((s.enterDown p cause failed).pair p).rings = (s.pair p).rings := by
  have changed := s.changeState_rings p .down (if (s.pair p).alloc.count = 0 then .noCells else cause) inactive differs left
  have forgotten (r : PairRec) : r.forgetLearned.rings = r.rings := by
    obtain ⟨l, e⟩ := r.forgetLearned_lane
    rw [e]
    rfl
  unfold State.enterDown
  simp only []
  split
  · rw [State.forgetLearned, State.pair_modPair_self, State.pair_modPair_self, forgotten]
    exact changed
  · rw [State.pair_modPair_self]
    exact changed

/-! ## The rows of the deadlines -/

theorem State.stateDue_of (s : State) (p : Pair) (st : PairState) (at_ : Time) (state : (s.pair p).state = st)
    (armed : (s.pair p).deadline = some at_) (now : reached s.clock.time at_ = true) : s.stateDue p st = true := by
  unfold State.stateDue
  rw [state, State.due_some armed now, beq_self_eq_true, Bool.and_self]

theorem exec_lossHoldoffExpiry (s : State) (p : Pair) (up : s.pins.resetN = true) (due : s.stateDue p .lost = true) :
    exec (.lossHoldoffExpiry p) s = .next (s.enterDown p .holdoff false) :=
  congrArg _ ((s.whenUp_high _ up).trans (if_pos due))

theorem exec_penaltyEnd (s : State) (p : Pair) (up : s.pins.resetN = true) (due : s.stateDue p .quarantine = true) :
    exec (.penaltyEnd p) s = .next (s.enterDown p .holdoff false) :=
  congrArg _ ((s.whenUp_high _ up).trans (if_pos due))

theorem exec_provingPeriodEnd (s : State) (p : Pair) (up : s.pins.resetN = true) (due : s.stateDue p .proving = true) :
    exec (.provingPeriodEnd p) s =
      .next (if s.provingPasses p then s.enterActive p else (s.bumpPair p .provingFail).failProving p .provingFailed) :=
  congrArg _ ((s.whenUp_high _ up).trans (if_pos due))

theorem exec_silenceExpiry (s : State) (p : Pair) (up : s.pins.resetN = true) (due : s.due (s.pair p).silence = true) :
    ((s.pair p).state = .proving →
        exec (.silenceExpiry p) s = .next ((s.bumpPair p .silenceExpiry).failProving p .silent)) ∧
      ((s.pair p).state = .active → exec (.silenceExpiry p) s = .next ((s.bumpPair p .silenceExpiry).lose p)) := by
  refine ⟨fun proving => ?_, fun active => ?_⟩
  · refine congrArg _ ((s.whenUp_high _ up).trans ((if_pos due).trans ?_))
    rw [proving]
  · refine congrArg _ ((s.whenUp_high _ up).trans ((if_pos due).trans ?_))
    rw [active]

/-- The record a failed PROVING leaves, its failure counted first (R173 to R175). -/
theorem State.failProving_record (s : State) (p : Pair) (c : PCounter) (cause : Reason) (proving : (s.pair p).state = .proving)
    (own : c ∈ supervisorCounters) (other : c ≠ .stateChange) :
    let r := s.pair p
    let y := ((s.bumpPair p c).failProving p cause).pair p
    y.state = .down ∧ y.reason = (if r.alloc.count = 0 then Reason.noCells else cause) ∧ y.proving.outcome = .fail ∧
      y.deadline = some (s.now + s.prof.active.retryHoldoff) ∧ y.count c = satAdd32 (r.count c) 1 := by
  intro r y
  have record : (((s.bumpPair p c).modPair p fun r => r.withOutcome .fail).pair p) = (r.bump c 1).withOutcome .fail := by
    rw [State.pair_modPair_self, State.bumpPair, State.pair_modPair_self]
  obtain ⟨state, reason, -, -, deadline, -, outcome, -, -, -, counts⟩ :=
    ((s.bumpPair p c).modPair p fun r => r.withOutcome .fail).enterDown_record p cause true (by
      rw [record]
      exact fun h => by cases proving.symm.trans h)
  rw [record] at reason outcome
  refine ⟨state, reason, congrArg Proving.outcome outcome, deadline, ?_⟩
  rw [show y.count c = _ from counts c own, if_neg other, record]
  exact PairRec.count_bump_self r c 1

end Sys2Proof.Machine

namespace Sys2Proof.Proofs
open Sys2Proof.Machine

/-- Settles O46. -/
theorem lossHoldoffEnds : Obligations.LossHoldoffEnds := by
  intro s p lost
  have notDown : (s.pair p).state ≠ .down := by rw [lost]; decide
  have notActive : (s.pair p).state ≠ .active := by rw [lost]; decide
  refine ⟨fun at_ up armed now => ?_, ?_, ?_⟩
  · obtain ⟨state, reason, silence, entered, deadline, errors, -, flaps, factor, statusDue, counts⟩ :=
      s.enterDown_record p .holdoff false notDown
    obtain ⟨pairs, dist, path, pins, rep, frame⟩ := s.enterDown_frame p .holdoff false notActive notDown
    refine ⟨s.enterDown p .holdoff false, exec_lossHoldoffExpiry s p up (s.stateDue_of p .lost at_ lost armed now), state, reason,
      silence, entered, deadline, ?_, errors, statusDue (by rw [lost]; rfl), flaps, factor, counts _ (by decide),
      s.enterDown_raises p .holdoff false notActive notDown, ?_, ?_, ?_, fun q other => ?_⟩
    · exact s.enterDown_lane p .holdoff false notDown (by rw [lost]; rfl)
    · rw [frame]
    · rw [frame]
    · rw [frame]
    · have watch := s.enterDown_other p q .holdoff false other
      exact ⟨congrArg Watch.state watch, congrArg Watch.lane watch⟩
  · unfold State.arrive
    rw [lost]
  · have still : ((s.modPair p fun r => { r with recentErrors := min 255 (r.recentErrors + 1) }).pair p).state = .lost := by
      rw [State.pair_modPair_self]
      exact lost
    unfold State.headerErrorNotice
    simp only [still]
    split
    · rfl
    · rfl

/-- Settles O47: each row enters its state from a record that the entry's own lemma describes. -/
theorem pairDeadlines : Obligations.PairDeadlines := by
  intro s p at_ up now r reason
  refine ⟨fun quarantine armed => ?_, fun proving armed enough few => ?_, fun proving armed fails => ?_, fun proving armed => ?_,
    fun active armed => ?_⟩
  · obtain ⟨state, cause, -, -, deadline, -, -, -, factor, -, -⟩ :=
      s.enterDown_record p .holdoff false (fun h => by cases quarantine.symm.trans h)
    exact ⟨_, exec_penaltyEnd s p up (s.stateDue_of p .quarantine at_ quarantine armed now), state, cause, deadline, factor⟩
  · obtain ⟨state, cause, outcome, entered, silence, count⟩ := s.enterActive_record p (fun h => by cases proving.symm.trans h)
    have passes : s.provingPasses p = true := by
      unfold State.provingPasses
      exact Bool.and_eq_true_iff.2 ⟨decide_eq_true enough, decide_eq_true few⟩
    have run := (exec_provingPeriodEnd s p up (s.stateDue_of p .proving at_ proving armed now)).trans (congrArg _ (if_pos passes))
    exact ⟨_, run, state, cause, outcome, entered, silence, count⟩
  · have failed : ¬ s.provingPasses p = true := by
      unfold State.provingPasses
      rw [Bool.and_eq_true_iff, decide_eq_true_iff, decide_eq_true_iff]
      rintro ⟨enough, few⟩
      exact fails.elim (Nat.not_lt.2 enough) (Nat.not_lt.2 few)
    have run := (exec_provingPeriodEnd s p up (s.stateDue_of p .proving at_ proving armed now)).trans (congrArg _ (if_neg failed))
    exact ⟨_, run, s.failProving_record p .provingFail .provingFailed proving (by decide) (by decide)⟩
  · exact ⟨_, (exec_silenceExpiry s p up (State.due_some armed now)).1 proving,
      s.failProving_record p .silenceExpiry .silent proving (by decide) (by decide)⟩
  · intro flaps
    have counted : (s.bumpPair p .silenceExpiry).pair p = r.bump .silenceExpiry 1 := State.pair_modPair_self _ _ _
    have record := (s.bumpPair p .silenceExpiry).lose_record p (by rw [counted]; exact active)
    simp only [counted] at record
    exact ⟨_, (exec_silenceExpiry s p up (State.due_some armed now)).2 active, record⟩

/-- Settles O48. -/
theorem drainedPairStarts : Obligations.DrainedPairStarts := by
  intro s p up drained
  have row : exec (.drainedPairStart p) s = .next (s.takeDrained p) := congrArg _ ((s.whenUp_high _ up).trans (if_pos drained))
  refine ⟨fun out draining => ?_, fun not_ => row.trans (congrArg _ (if_neg not_))⟩
  generalize noticed : (s.modPair p fun r => { r with drained := false }) = u
  have run : exec (.drainedPairStart p) s = .next (u.startPair p) := by
    rw [row, ← noticed]
    exact congrArg _ (if_pos ⟨out, draining⟩)
  have own : u.pair p = { s.pair p with drained := false } := by
    rw [← noticed]
    exact State.pair_modPair_self _ _ _
  obtain ⟨counters, start⟩ := u.starting_pair p
  obtain ⟨reseq, deliv, sup, -⟩ := u.starting_frame p
  have state : ((u.starting p).pair p).state = .out := by rw [start, own]; exact out
  have rings : ((u.starting p).pair p).rings =
      { landed := 0, released := 0, cells := List.replicate (s.pair p).cells.length .free, fill := 0, produced := 0, consumed := 0,
        alloc := (s.pair p).alloc } := by
    rw [start, own]
    rfl
  have sup_ : (u.starting p).sup = s.sup := by rw [sup, ← noticed]; rfl
  have reseq_ : (u.starting p).reseq = s.reseq := by rw [reseq, ← noticed]; rfl
  have deliv_ : (u.starting p).deliv = s.deliv := by rw [deliv, ← noticed]; rfl
  have left := u.starting_detached p
  rw [u.startPair_eq] at run
  generalize u.starting p = v at state rings sup_ reseq_ deliv_ left run
  have notActive : (v.pair p).state ≠ .active := by rw [state]; decide
  have notHeld : (v.pair p).state ≠ .held := by rw [state]; decide
  have notDown : (v.pair p).state ≠ .down := by rw [state]; decide
  cases stop : s.sup.stopView with
  | true =>
    have after := (v.hold_rings p notActive notHeld left).trans rings
    obtain ⟨pairs, dist, path, pins, rep, frame⟩ := v.hold_frame p notActive notHeld
    have entered : ((v.hold p).pair p).state = .held := ((v.hold_moves p).state p).trans (if_pos rfl)
    rw [sup_, stop] at run
    refine ⟨v.hold p, run, entered, congrArg Rings.landed after, congrArg Rings.released after, congrArg Rings.cells after,
      congrArg Rings.fill after, congrArg Rings.produced after, congrArg Rings.consumed after, congrArg Rings.alloc after, ?_, ?_⟩
    · rw [frame, ← reseq_]
    · rw [frame, ← deliv_]
  | false =>
    have after := (v.enterDown_rings p .none false notActive notDown left).trans rings
    obtain ⟨pairs, dist, path, pins, rep, frame⟩ := v.enterDown_frame p .none false notActive notDown
    have entered : ((v.enterDown p .none false).pair p).state = .down := ((v.enterDown_moves p .none false).state p).trans (if_pos rfl)
    rw [sup_, stop] at run
    refine ⟨v.enterDown p .none false, run, entered, congrArg Rings.landed after, congrArg Rings.released after,
      congrArg Rings.cells after, congrArg Rings.fill after, congrArg Rings.produced after, congrArg Rings.consumed after,
      congrArg Rings.alloc after, ?_, ?_⟩
    · rw [frame, ← reseq_]
    · rw [frame, ← deliv_]

end Sys2Proof.Proofs
end
